-- ==== Sys2Proof/Word.lean ====
section
/-! DEFINITION. The word types of the part: bytes of the three links, text symbols, and the bit maps
in which the spec sends sets (R196). -/

namespace Sys2Proof

/-- One byte of a frame, a response, a readout or a link message (R184, R196). -/
abbrev Byte := BitVec 8

/-- One symbol of a carrier text block, sent in 7 bits (R196 Text). -/
abbrev Symbol := BitVec 7

/-- A set of insert feeders: I1 to I6 occupy bits 0 to 5 (R196 Sets). -/
abbrev InsertSet := BitVec 6

/-- A set of fault causes in the order of the table of section 3.6: bit 0 JAM to bit 7 POCKET-JAM. -/
abbrev FaultSet := BitVec 8

/-- The attention enable set, and the set of standing conditions, from bit 0 FAULT (R191). -/
abbrev ConditionSet := BitVec 6

/-- Insert feeder I(n+1), for n from 0 to 5. -/
abbrev Insert := Fin 6

end Sys2Proof
end

