-- ==== Sys2Proof/Config.lean ====
section
/-! DEFINITION. What one PH-2630 fixes for good: the capacities the spec gives its tables, the two
identity numbers, and the free values, which are constants with no body. -/

namespace Sys2Proof.Config

/-- Record slots of the record store (R1). -/
def storeSlots : Nat := 512
/-- Entries of the plan table (R32). -/
def planSlots : Nat := 4
/-- Most ordinals of one size list (R38). -/
def maxOrdinals : Nat := 512
/-- Records of the bundle table (R132). -/
def bundleSlots : Nat := 24
/-- Entries of the exception list (R152). -/
def exceptionSlots : Nat := 128
/-- Exception entries at which births stop (R71). -/
def exceptionBirthLimit : Nat := 64
/-- Most outstanding printer jobs (R92). -/
def maxOutstanding : Nat := 4
/-- Timing units U0 to U18 (R158). -/
def unitCount : Nat := 19
/-- Members returned by one READ BUNDLE (R150). -/
def membersPerRead : Nat := 48
/-- Entries returned by one READ EXCEPTIONS (R153). -/
def entriesPerRead : Nat := 16
/-- Payload bytes of a response (R184, R194). -/
def maxPayload : Nat := 250
/-- Part code answered by IDENTIFY (R190). -/
def partCode : Nat := 2630
/-- Revision described by the spec (R190). -/
def revision : Nat := 1

/-- FREE VALUE (log entry 7). The advance of a PULSE unit whose latency is not 0 when the measured
pitch period is 0 µs: R167 divides by the period and states no result. Arguments: latency and C. -/
opaque zeroPeriodAdvance : Nat → Nat → Nat

/-- FREE VALUE (log entry 8). Whether the hold timer's expiry is taken before an eject timer's when
both fall at the same moment: the spec fixes no order. The argument is the model's draw counter. -/
opaque holdExpiryFirst : Nat → Bool

/-- FREE VALUE (log entry 26). The value on the GAUGE input in an act between two encoder counts: only
a count carries the level, and U16 may sample it in between (R118, R164, R169). The argument is the
model's draw counter. -/
opaque gaugeBetweenCounts : Nat → BitVec 10

/-- FREE VALUE (log entry 10). The µs from the release of the reset input to the rise of RDY, used up to
1,000: R183 says only that RDY rises within 1 ms. The argument is the model's draw counter. -/
opaque rdyRise : Nat → Nat

/-- FREE VALUE (log entry 10). Whether a transaction of the host begins before RDY rises after a pin
reset and ends after it. The argument is the model's draw counter. -/
opaque straddlesRise : Nat → Bool

end Sys2Proof.Config
end

