-- ==== Sys2Proof/Syntax.lean ====
section
/-! DEFINITION. The commands and events of the part: one constructor of `Instr` for each row of
spec/opcode_table.json, with the operands the spec's layouts give it (section 10.7 for host commands,
section 10.6 for the serial links, chapter 3 for the line inputs). -/

namespace Sys2Proof

/-- The payload of a host command as the host link finds it (R185, R196): the fields of the command's
layout, or a payload of wrong length or out of form, which R185 refuses with RANGE. -/
inductive Payload (α : Type) where
  | fields (a : α)
  | malformed
  deriving DecidableEq, Repr

/-- SET GEOMETRY (R50): C, the fitted set, the six insert offsets, and the station offsets. -/
structure GeometryFields where
  c : Nat
  fitted : InsertSet
  offsets : List Nat
  cOff : Nat
  v : Nat
  w : Nat
  x : Nat
  g : Nat
  d : Nat
  s : Nat
  deriving DecidableEq, Repr

/-- SET PRODUCT (R27). -/
structure ProductFields where
  baseMass : Nat
  baseThickness : Nat
  carrierMass : Nat
  carrierThickness : Nat
  cutLength : Nat
  webWidth : Nat
  grammage : Nat
  deriving DecidableEq, Repr

/-- SET INSERT (R28, R81): the insert number as carried, and its three values. -/
structure InsertFields where
  number : Nat
  mass : Nat
  thickness : Nat
  required : Bool
  deriving DecidableEq, Repr

/-- SET BUNDLE LIMITS (R31). -/
structure BundleLimitFields where
  nmax : Nat
  mmax : Nat
  deriving DecidableEq, Repr

/-- SET REMAKE (R130). -/
structure RemakeFields where
  burst : Nat
  remakeLimit : Nat
  tolerance : Nat
  deriving DecidableEq, Repr

/-- SET PRINTER (R103). -/
structure PrinterFields where
  lmin : Nat
  lmax : Nat
  upStep : Nat
  downStep : Nat
  waitThreshold : Nat
  marginThreshold : Nat
  deriving DecidableEq, Repr

/-- SET UNIT (R160). -/
structure UnitFields where
  unit : Nat
  enable : Bool
  on : Nat
  off : Nat
  latency : Nat
  deriving DecidableEq, Repr

/-- SET HOLD (R60, R156). -/
structure HoldFields where
  lineLimit : Nat
  bundleLimit : Nat
  ejectLimit : Nat
  deriving DecidableEq, Repr

/-- JOB SETUP (R174). -/
structure JobFields where
  lowWater : Nat
  start : Nat
  deriving DecidableEq, Repr

/-- One record of a LOAD frame (section 10.7, LOAD record): the text is the symbols of its block. -/
structure LoadRecord where
  key : Nat
  route : Nat
  sequence : Nat
  version : InsertSet
  endOfRoute : Bool
  text : List Symbol
  deriving DecidableEq, Repr

/-- AMEND (R19): a text, a version, both or neither. -/
structure AmendFields where
  key : Nat
  text : Option (List Symbol)
  version : Option InsertSet
  deriving DecidableEq, Repr

/-- READ BUNDLE (R150). -/
structure BundleReadFields where
  bundle : Nat
  first : Nat
  deriving DecidableEq, Repr

/-- SNAPSHOT (R192): the line byte, the position set and the unit set. -/
structure SnapshotFields where
  line : Nat
  positions : BitVec 64
  units : BitVec 24
  deriving DecidableEq, Repr

/-- Why a frame is no command (R184). -/
inductive FrameError where
  | frame
  | unknown
  deriving DecidableEq, Repr

/-- The three fault inputs (R61). -/
inductive FaultInput where
  | jam
  | filmbrk
  | guard
  deriving DecidableEq, Repr

/-- The two stacker pockets (R133). -/
inductive PocketId where
  | a
  | b
  deriving DecidableEq, Repr

/-- The input lines on which edges are counted: those of U1, U8 to U13 and U15 (R164). -/
inductive EdgeInput where
  | magazine
  | insert (i : Insert)
  | cut
  deriving DecidableEq, Repr

/-- Why a read is discarded (R106). -/
inductive ReadDiscard where
  | malformed
  | emptyList
  deriving DecidableEq, Repr

/-- The parts of one pitch mark that the spec lets be taken in either order (R70, R79, R107, R128,
R129, R136): `windowClose u` is the close of window unit u at phase 0 of the mark. -/
inductive MarkEvent where
  | windowClose (u : Nat)
  | stackerArrival
  | diverterArrival
  | lookAhead
  | holdExpiry
  | wrapArrival
  | verifyTimeout
  | verifyArrival
  | carrierArrival
  | printerJobs
  | insertArrivals
  | birthDecision
  | drainTest
  deriving DecidableEq, Repr

/-- What the outside gives with a forward encoder count: the time in µs that has passed since the
encoder count before it and that no step on an empty queue has passed already, the value standing on
the GAUGE input, and, for a count that reaches a pitch mark, the order in which the mark's events are
taken (events left out follow in the default order). -/
structure CountInputs where
  elapsed : Nat
  gauge : Nat
  order : List MarkEvent
  deriving DecidableEq, Repr

/-- The commands and events of the PH-2630, one constructor for each row of spec/opcode_table.json. -/
inductive Instr where
  /-- RESPONSE_READ (R186): bytes clocked after the F0h. -/
  | responseRead (clocked : Nat)
  /-- FRAME_REFUSED (R184). -/
  | frameRefused (why : FrameError)
  | status (p : Payload Unit)
  | identify (p : Payload Unit)
  | setGeometry (p : Payload GeometryFields)
  | setProduct (p : Payload ProductFields)
  | setInsert (p : Payload InsertFields)
  | setBundleLimits (p : Payload BundleLimitFields)
  | setRemake (p : Payload RemakeFields)
  | setPrinter (p : Payload PrinterFields)
  | setUnit (p : Payload UnitFields)
  | setHold (p : Payload HoldFields)
  /-- SET_ATTENTION (R191): the one byte carried. -/
  | setAttention (p : Payload Byte)
  | jobSetup (p : Payload JobFields)
  | jobConfirm (p : Payload Unit)
  | jobConfirmCompletion
  | run (p : Payload Unit)
  | pause (p : Payload Unit)
  | drain (p : Payload Unit)
  | clearSetup (p : Payload Unit)
  | clearConfirm (p : Payload Unit)
  | clearConfirmCompletion
  | reset (p : Payload Unit)
  | load (p : Payload (List LoadRecord))
  /-- FIND (R18): the subscriber key. -/
  | find (p : Payload Nat)
  | amend (p : Payload AmendFields)
  /-- WITHDRAW (R21): the subscriber key. -/
  | withdraw (p : Payload Nat)
  | readBundle (p : Payload BundleReadFields)
  /-- RELEASE_BUNDLE (R151): the bundle number. -/
  | releaseBundle (p : Payload Nat)
  | readExceptions (p : Payload Unit)
  /-- RELEASE_EXCEPTIONS (R154): the count. -/
  | releaseExceptions (p : Payload Nat)
  | snapshot (p : Payload SnapshotFields)
  | readSnapshot (p : Payload Unit)
  | pinResetAssert
  | pinResetRelease
  | encoderForwardCount (i : CountInputs)
  /-- ENCODER_REVERSE_COUNT (R46): the time in µs, as with a forward count. -/
  | encoderReverseCount (elapsed : Nat)
  | faultInputActive (input : FaultInput)
  | faultInputInactive (input : FaultInput)
  | clearEdge (pocket : PocketId)
  | pocketJam (pocket : PocketId)
  | holdTimeout
  | holdExpired
  | verifyTimeout
  /-- ACCEPT (R96): the piece number. -/
  | accept (piece : BitVec 16)
  /-- PRINTED (R96): the piece number. -/
  | printed (piece : BitVec 16)
  /-- REFUSE (R97): the piece number and the reason code. -/
  | refuse (piece : BitVec 16) (reason : Nat)
  /-- PRINTER_STATE (R91): the value of the STATE message. -/
  | printerState (value : Nat)
  | carrierMessageDiscarded
  | carrierTransmitDone
  /-- READ (R106, R108): the key read, or none for NOREAD, and the corrected-symbol count. -/
  | read (key : Option Nat) (corrected : Nat)
  | readDiscarded (why : ReadDiscard)
  | stationInputEdge (line : EdgeInput)
  deriving DecidableEq, Repr

end Sys2Proof
end

