-- ==== Sys2Proof/Machine/State.lean ====
section
/-! DEFINITION. The state of the part, block by block as the table of the scope file (Blocks) names
them, the reasons a step can stop, and the state right after pin reset. -/

namespace Sys2Proof.Machine

/-! ### Names of the spec's enumerations, each in the order in which its rule lists them (R196) -/

/-- Result codes of a response (section 10.6). -/
inductive ResultCode where
  | ok | okClamped | partialResult | busy | state | range | full | notFound | duplicate | order
  | limit | tooLate | sequence | frame | unknown
  deriving DecidableEq, Repr

/-- States of an address record (R3). A FREE slot is not listed in the store, so no listed record
carries `free`. -/
inductive RecordState where
  | free | queued | inFlight | stacked | bundled | exception
  deriving DecidableEq, Repr

/-- Kind in queue of an address record (R3). -/
inductive Kind where
  | normal | remake | return
  deriving DecidableEq, Repr

/-- Final outcome of an address record (R3), in the order of R3's table: the number of a disposition,
in an exception entry too (log entry 13). -/
inductive Disposition where
  | mailed | spoiled | lateMade | lateUnmade | withdrawn
  deriving DecidableEq, Repr

/-- Defect causes in the order of the table of section 4.6. -/
inductive DefectCause where
  | magDouble | insertMiss | insertDouble | noPrint | noRead | keyMismatch | wrapAbort | cutFault
  | thickLow | thickHigh
  deriving DecidableEq, Repr

/-- Stations that record defects (R196). -/
inductive DefectStation where
  | magazine
  | insert (i : Insert)
  | carrier | verify | wrap | cut | gauge
  deriving DecidableEq, Repr

/-- Stages of a piece, in the stage order of R69. -/
inductive Stage where
  | called | fed | collating | carried | verified | wrapped | cut | gauged | passing
  deriving DecidableEq, Repr

/-- Print job states (R67). -/
inductive JobState where
  | none | due | sent | accepted | printed | refused | cancelled
  deriving DecidableEq, Repr

/-- Grades of a verify result (R108), TIMEOUT last (R110, R196). -/
inductive Grade where
  | good | marginal | noRead | slip | mismatch | timeout
  deriving DecidableEq, Repr

/-- Gap causes in the order of R71. -/
inductive GapCause where
  | noCandidate | drainOnly | exceptionLimit | planFull | planClosed | bundleFull
  deriving DecidableEq, Repr

/-- Line states (R52). -/
inductive LineState where
  | idle | stopped | running | draining | holding | faulted
  deriving DecidableEq, Repr

/-- Fault causes in the order of the table of section 3.6. -/
inductive FaultCause where
  | jam | filmbrk | guard | reverse | overrun | holdTimeout | carrierSlip | pocketJam
  deriving DecidableEq, Repr

/-- Bundle states (R132). -/
inductive BundleState where
  | forming | filling | held | ejecting | closed
  deriving DecidableEq, Repr

/-- Close reasons (R132). -/
inductive CloseReason where
  | planned | holdExpired | forced | drain | emptied
  deriving DecidableEq, Repr

/-- Pocket states (R133). -/
inductive PocketState where
  | free | filling | held | ejecting
  deriving DecidableEq, Repr

/-! ### The record store and the mailing queue (chapter 1) -/

/-- A plan reference: plan number and bundle ordinal (R3). -/
structure PlanRef where
  plan : Nat
  ordinal : Nat
  deriving DecidableEq, Repr

/-- An address record (R3). -/
structure Record where
  key : Nat
  route : Nat
  sequence : Nat
  endOfRoute : Bool
  version : InsertSet
  text : List (List Symbol)
  nominalMass : Nat
  nominalThickness : Nat
  state : RecordState
  kind : Kind
  remakeCount : Nat
  amendCount : Nat
  planRef : Option PlanRef
  bundle : Option Nat
  withdrawPending : Bool
  lastDefect : Option DefectCause
  disposition : Option Disposition
  deriving DecidableEq, Repr

/-- A sort key: the pair of route and sequence (R3). -/
structure SortKey where
  route : Nat
  sequence : Nat
  deriving DecidableEq, Repr

/-- The mailing queue (R8, R12, R16, R25): the keys of the QUEUED records from front to back, and the
values the queue keeps. -/
structure Queue where
  order : List Nat
  lastKey : Option SortKey
  lastEnded : Option Nat
  consecutive : Nat
  burst : Nat
  lowWater : Nat
  deriving DecidableEq, Repr

/-! ### The bundle planner (chapter 2) -/

/-- Product settings (R27). -/
structure Product where
  baseMass : Nat
  baseThickness : Nat
  carrierMass : Nat
  carrierThickness : Nat
  cutLength : Nat
  webWidth : Nat
  grammage : Nat
  deriving DecidableEq, Repr

/-- Settings of one insert feeder (R28, R81). -/
structure InsertSettings where
  mass : Nat
  thickness : Nat
  required : Bool
  deriving DecidableEq, Repr

/-- Bundle status of an ordinal (R33); ALLOCATED holds the bundle number. -/
inductive OrdinalStatus where
  | waiting
  | allocated (bundle : Nat)
  | skipped
  | emptied
  | released
  deriving DecidableEq, Repr

/-- An ordinal entry of a size list (R33). -/
structure Ordinal where
  count : Nat
  mass : Nat
  final : Bool
  overmass : Bool
  status : OrdinalStatus
  deriving DecidableEq, Repr

/-- How a plan was made (R32); an OPEN plan holds its current ordinal. -/
inductive PlanKind where
  | complete
  | openAt (current : Nat)
  deriving DecidableEq, Repr

/-- An ACTIVE route plan (R32). Its plan number is its place in the plan table. -/
structure Plan where
  route : Nat
  kind : PlanKind
  nmax : Nat
  mmax : Nat
  sizes : List Ordinal
  closedToGrowth : Bool
  deriving DecidableEq, Repr

/-- The bundle planner: its settings (R27 to R31) and the plan table of 4 entries (R32), where
`none` is a FREE entry. -/
structure Planner where
  product : Product
  filmMass : Nat
  inserts : List InsertSettings
  nmax : Nat
  mmax : Nat
  plans : List (Option Plan)
  deriving DecidableEq, Repr

/-! ### The line unit (chapter 3) -/

/-- The station map and C (R50). `fitted` says which inserts are fitted; an offset not fitted is 0. -/
structure Geometry where
  isSet : Bool
  c : Nat
  fitted : InsertSet
  offsets : List Nat
  cOff : Nat
  v : Nat
  w : Nat
  x : Nat
  g : Nat
  d : Nat
  s : Nat
  deriving DecidableEq, Repr

/-- A timer that the spec reports in whole milliseconds up to 65,535: the milliseconds, and the
microseconds of the millisecond begun. -/
structure MsTimer where
  ms : Nat
  micros : Nat
  deriving DecidableEq, Repr

/-- The hold causes (R58). -/
structure HoldSet where
  printerWait : Bool
  pocketWait : Bool
  deriving DecidableEq, Repr

/-- The hold cause set (R58). `raised` is the model's own: the causes raised at the pitch mark in
progress, empty between commands. -/
structure Holds where
  causes : HoldSet
  raised : HoldSet
  deriving DecidableEq, Repr

/-- The line unit (R45 to R65). `sinceMark` is the measurement of R49 in progress: the µs since the
last mark reached with DRIVE-ON on, absent when no such mark has been reached since DRIVE-ON changed. -/
structure LineUnit where
  state : LineState
  drain : Bool
  pause : Bool
  inPitch : Nat
  backlash : Nat
  pitch : BitVec 32
  period : Option Nat
  sinceMark : Option Nat
  holdTimer : MsTimer
  first : Option FaultCause
  further : FaultSet
  holdLimit : Nat
  deriving DecidableEq, Repr

/-! ### The tracking table (chapter 4) -/

/-- An entry of a defect list (R67). -/
structure Defect where
  cause : DefectCause
  station : DefectStation
  deriving DecidableEq, Repr

/-- A verify result (R67): the key read, or none for NOREAD. -/
structure VerifyResult where
  key : Option Nat
  corrected : Nat
  grade : Grade
  deriving DecidableEq, Repr

/-- A piece record (R67), with the lead and the waiting mark that the carrier unit holds with the
piece's job (R93, R99), and the defects that only raised the overflow count (R85, R114; log entry 27).
-/
structure Piece where
  number : BitVec 16
  birthPitch : BitVec 32
  key : Nat
  version : InsertSet
  delivered : InsertSet
  remake : Bool
  stage : Stage
  defects : List Defect
  overflow : Nat
  overflowed : List Defect
  job : JobState
  lead : Nat
  waiting : Bool
  verify : Option VerifyResult
  thickness : Option Nat
  bundle : Nat
  claim : Bool
  deriving DecidableEq, Repr

/-- The tracking table, its pieces in birth order (oldest first), and the counts of the birth
decision (R66, R68, R71). -/
structure Tracking where
  pieces : List Piece
  counter : BitVec 16
  gapCount : Nat
  lastGap : Option GapCause
  deriving DecidableEq, Repr

/-! ### The carrier unit and the verify unit (chapter 5) -/

/-- A message to the printer (section 5.1). -/
inductive PrinterMessage where
  | job (piece : BitVec 16) (text : List (List Symbol))
  | cancel (piece : BitVec 16)
  | cancelAll
  deriving DecidableEq, Repr

/-- The last refusal (R97). -/
structure Refused where
  piece : BitVec 16
  reason : Nat
  deriving DecidableEq, Repr

/-- The carrier unit (R90 to R105): the message in transmission and those waiting, the printer job
list as piece numbers in sending order, the lead and its adaptation, and the settings. -/
structure Carrier where
  ready : Bool
  transmitting : Option PrinterMessage
  waiting : List PrinterMessage
  jobs : List (BitVec 16)
  lq : Nat
  accumulator : Nat
  start : Nat
  windowCount : Nat
  waits : Nat
  lmin : Nat
  lmax : Nat
  upStep : Nat
  downStep : Nat
  waitThreshold : Nat
  marginThreshold : Nat
  lastRefusal : Option Refused
  linkErrors : Nat
  deriving DecidableEq, Repr

/-- The verify unit (R106 to R111): the expected-read list as piece numbers, oldest first. -/
structure Verify where
  expected : List (BitVec 16)
  previous : Option (BitVec 16)
  reads : Nat
  marginals : Nat
  printQuality : Bool
  linkErrors : Nat
  strays : Nat
  deriving DecidableEq, Repr

/-! ### The diverter (chapter 6) -/

/-- Settings carried by SET REMAKE beside the burst limit (R130), and the diverter counts (R131). -/
structure Diverter where
  remakeLimit : Nat
  tolerance : Nat
  passed : Nat
  claims : Nat
  remade : Nat
  spoiled : Nat
  withdrawn : Nat
  lateMade : Nat
  deriving DecidableEq, Repr

/-! ### The stacker unit (chapter 7) -/

/-- An allocated bundle record (R132). -/
structure Bundle where
  number : Nat
  route : Nat
  plan : Nat
  ordinal : Nat
  state : BundleState
  pocket : Option PocketId
  plannedCount : Nat
  plannedMass : Nat
  final : Bool
  overmass : Bool
  stackedCount : Nat
  stackedMass : Nat
  members : List Nat
  short : Bool
  reason : Option CloseReason
  holdStart : Option (BitVec 32)
  claim : Bool
  deriving DecidableEq, Repr

/-- The eject timer of a pocket, and whether POCKET-JAM has been raised for its ejection (R147). -/
structure EjectTimer where
  timer : MsTimer
  jammed : Bool
  deriving DecidableEq, Repr

/-- An entry of the exception list (R152). -/
structure ExceptionEntry where
  key : Nat
  disposition : Disposition
  defect : Option DefectCause
  piece : Option (BitVec 16)
  remakeCount : Nat
  deriving DecidableEq, Repr

/-- The report of the last bundle freed without closing (R148). -/
structure FreedReport where
  bundle : Nat
  route : Nat
  reason : CloseReason
  deriving DecidableEq, Repr

/-- The stacker unit (chapter 7): the allocated records of the bundle table, the bundle counter (R75),
the eject timers, the last reserved pocket, the pocket request, the closed order and the exception
list. A pocket's state and bundle are those of the bundle whose pocket field names it (R133).
`markLimit` is the model's own: the bundle hold limit in force at the last pitch mark, which is the
limit of the last expiry test (R140, R198, log entry 6). -/
structure Stacker where
  bundles : List Bundle
  counter : Nat
  ejectA : EjectTimer
  ejectB : EjectTimer
  lastReserved : Option PocketId
  request : Option Nat
  closedOrder : List Nat
  exceptions : List ExceptionEntry
  lateCount : Nat
  lastFreed : Option FreedReport
  freedCount : Nat
  holdLimit : Nat
  markLimit : Nat
  ejectLimit : Nat
  deriving DecidableEq, Repr

/-! ### The timing units (chapter 8) -/

/-- The settings of a timing unit (R158). -/
structure UnitSettings where
  enable : Bool
  on : Nat
  off : Nat
  latency : Nat
  deriving DecidableEq, Repr

/-- An OPEN window (R158, R164). `piece` is the number of the piece that stood at the unit's station
when the window opened: the piece to which the result belongs (R77, R82, R116, R119). -/
structure OpenWindow where
  pitch : BitVec 32
  enabled : Bool
  close : Nat
  edges : Nat
  piece : Option (BitVec 16)
  deriving DecidableEq, Repr

/-- One timing unit (R158). `ordered` is an order not yet begun; `pulse` holds the fixed off phase of
the pulse in progress, and the output is asserted exactly while it is present; `window` is the OPEN
window; `opened` says that this pitch's window has been opened (R164, R169). -/
structure TimingUnit where
  settings : UnitSettings
  pending : Option UnitSettings
  advance : Nat
  effOn : Nat
  effOff : Nat
  compLimit : Bool
  ordered : Bool
  pulse : Option Nat
  window : Option OpenWindow
  opened : Bool
  deriving DecidableEq, Repr

/-! ### The host link (chapter 10) -/

/-- The response slot (R186). -/
inductive Slot where
  | empty
  | pending
  | formed (code : ResultCode) (payload : List Byte)
  deriving DecidableEq, Repr

/-- The setup latch (R175). -/
inductive SetupLatch where
  | empty
  | job (lowWater : Nat) (start : Nat)
  | clear
  deriving DecidableEq, Repr

/-- The long operation in progress (R176, R178): JOB CONFIRM keeps the values its latch held. -/
inductive Operation where
  | jobConfirm (lowWater : Nat) (start : Nat)
  | clearConfirm
  deriving DecidableEq, Repr

/-- The line item of a snapshot (R193). -/
structure LineItem where
  line : LineUnit
  causes : HoldSet
  deriving DecidableEq, Repr

/-- A piece record readout (section 10.6): the piece record, its position and the nominal thickness of
its address record. -/
structure PieceReadout where
  piece : Piece
  position : Nat
  nominalThickness : Nat
  deriving DecidableEq, Repr

/-- A position item of a snapshot (R193). -/
structure PositionItem where
  position : Nat
  expectedCount : Nat
  entryHeld : Bool
  occupant : Option PieceReadout
  deriving DecidableEq, Repr

/-- A unit item of a snapshot (R172, R193). -/
structure UnitItem where
  unit : Nat
  content : TimingUnit
  deriving DecidableEq, Repr

/-- The host link (R184 to R195). `clockedOut` is the model's own: the bytes the last response read
clocked out on the SPI port. -/
structure HostLink where
  slot : Slot
  clockedOut : List Byte
  latch : SetupLatch
  attention : ConditionSet
  operation : Option Operation
  cleared : Bool
  lineItem : Option LineItem
  positionItems : List PositionItem
  unitItems : List UnitItem
  deriving DecidableEq, Repr

/-! ### Pins -/

/-- The levels of the input pins: the three fault inputs, the ten-bit GAUGE input, and the reset input
(scope file, Connections; R61, R118, R183). -/
structure Inputs where
  jam : Bool
  filmbrk : Bool
  guard : Bool
  gauge : Nat
  reset : Bool
  deriving DecidableEq, Repr

/-- What is left of the span between the release of the reset input and the first frame taken (R183,
R184): the µs until RDY rises, absent once it has risen, and whether the next transaction to end after
the rise began before it. -/
structure Startup where
  rdyIn : Option Nat
  straddles : Bool
  deriving DecidableEq, Repr

/-- The state of the part: one field for each block of the scope file's table, the record store as the
list of its allocated records, the hold cause set, the pins, the span after a pin reset, the model's draw
counter for free values (log entries 8, 10 and 26), and the queue of commands that wait. -/
structure State where
  host : HostLink
  store : List Record
  queue : Queue
  planner : Planner
  geometry : Geometry
  line : LineUnit
  holds : Holds
  tracking : Tracking
  carrier : Carrier
  verify : Verify
  diverter : Diverter
  stacker : Stacker
  units : List TimingUnit
  inputs : Inputs
  startup : Startup
  draws : Nat
  pending : List Instr
  deriving DecidableEq, Repr

/-- No command or event of this part stops it: every row of the table ends in a next state, so there
is no fault to name. -/
inductive Fault where
  deriving DecidableEq, Repr

/-- The reasons a command has no meaning. -/
inductive Refusal where
  /-- Raised by an arm of `exec` whose command has not been modelled yet; safe. No arm raises it now. -/
  | notModelled (mnemonic : String)
  deriving DecidableEq, Repr

/-! ### The state after pin reset -/

/-- Every fault cause and hold cause absent. -/
def HoldSet.none : HoldSet := { printerWait := false, pocketWait := false }

/-- A timer stopped at 0. -/
def MsTimer.zero : MsTimer := { ms := 0, micros := 0 }

/-- Product settings after pin reset (R27). -/
def Product.initial : Product :=
  { baseMass := 100, baseThickness := 30, carrierMass := 3, carrierThickness := 1,
    cutLength := 300, webWidth := 400, grammage := 20 }

/-- Insert settings after pin reset (R28, R81). -/
def InsertSettings.initial : InsertSettings := { mass := 0, thickness := 0, required := true }

/-- Geometry unset, C taken as 400 (R50, R65). -/
def Geometry.unset : Geometry :=
  { isSet := false, c := 400, fitted := 0, offsets := [0, 0, 0, 0, 0, 0],
    cOff := 0, v := 0, w := 0, x := 0, g := 0, d := 0, s := 0 }

/-- An eject timer stopped at 0 (R157). -/
def EjectTimer.stopped : EjectTimer := { timer := MsTimer.zero, jammed := false }

/-- A timing unit after pin reset (R173). -/
def TimingUnit.initial : TimingUnit :=
  { settings := { enable := false, on := 0, off := 50, latency := 0 }, pending := none,
    advance := 0, effOn := 0, effOff := 50, compLimit := false, ordered := false, pulse := none,
    window := none, opened := false }

/-- RDY has risen, and no transaction begun before it is still to end (R183). -/
def Startup.over : Startup := { rdyIn := none, straddles := false }

/-- The part right after pin reset (the pin reset columns of R26, R44, R65, R89, R112, R131, R157 and
R173; R25, R186, R188, R191, R195), its fault inputs inactive, once RDY has risen (log entry 10). The
CANCEL ALL that R183 produces at the release is in transmission. -/
def State.reset : State where
  host :=
    { slot := .empty, clockedOut := [], latch := .empty, attention := 63, operation := none,
      cleared := false, lineItem := none, positionItems := [], unitItems := [] }
  store := []
  queue :=
    { order := [], lastKey := none, lastEnded := none, consecutive := 0, burst := 4, lowWater := 32 }
  planner :=
    { product := Product.initial, filmMass := 2, inserts := List.replicate 6 InsertSettings.initial,
      nmax := 50, mmax := 10000, plans := [none, none, none, none] }
  geometry := Geometry.unset
  line :=
    { state := .idle, drain := false, pause := false, inPitch := 0, backlash := 0, pitch := 0,
      period := none, sinceMark := none, holdTimer := MsTimer.zero, first := none, further := 0,
      holdLimit := 10000 }
  holds := { causes := HoldSet.none, raised := HoldSet.none }
  tracking := { pieces := [], counter := 0, gapCount := 0, lastGap := none }
  carrier :=
    { ready := false, transmitting := some .cancelAll, waiting := [], jobs := [], lq := 12,
      accumulator := 0, start := 12, windowCount := 0, waits := 0, lmin := 8, lmax := 32, upStep := 2,
      downStep := 1, waitThreshold := 2, marginThreshold := 3, lastRefusal := none, linkErrors := 0 }
  verify :=
    { expected := [], previous := none, reads := 0, marginals := 0, printQuality := false,
      linkErrors := 0, strays := 0 }
  diverter :=
    { remakeLimit := 2, tolerance := 5, passed := 0, claims := 0, remade := 0, spoiled := 0,
      withdrawn := 0, lateMade := 0 }
  stacker :=
    { bundles := [], counter := 1, ejectA := EjectTimer.stopped, ejectB := EjectTimer.stopped,
      lastReserved := none, request := none, closedOrder := [], exceptions := [], lateCount := 0,
      lastFreed := none, freedCount := 0, holdLimit := 24, markLimit := 24,
      ejectLimit := 3000 }
  units := List.replicate Config.unitCount TimingUnit.initial
  inputs := { jam := false, filmbrk := false, guard := false, gauge := 0, reset := false }
  startup := Startup.over
  draws := 0
  pending := []

end Sys2Proof.Machine
end

