-- ==== Sys2Proof/Machine/Ops.lean ====
section
/-! DEFINITION. The named operations over the record store, the mailing queue, the tracking table, the
plan table, the bundle table and the timers, on which every rule of the later files is written. -/

namespace Sys2Proof.Machine

/-! ### Counts -/

/-- A count that stays at `top` once it has reached it ("a rise at 65,535 leaves it there"). -/
def raise (top n : Nat) : Nat := if n < top then n + 1 else n

/-- The top of a 16-bit count. -/
def top16 : Nat := 65535

/-- The top of a 32-bit count. -/
def top32 : Nat := 4294967295

/-- Division rounded up (scope file, Division and rounding). -/
def ceilDiv (n d : Nat) : Nat := (n + d - 1) / d

/-- A value brought into `lo` to `hi`, the upper bound last (R103, R104). -/
def bringInto (lo hi n : Nat) : Nat := min hi (max lo n)

/-- A timer after `micros` more microseconds (R60, R147): at 65,535 ms it stays. -/
def MsTimer.advance (t : MsTimer) (micros : Nat) : MsTimer :=
  { ms := min top16 (t.ms + (t.micros + micros) / 1000), micros := (t.micros + micros) % 1000 }

/-! ### The record store -/

/-- The free count: FREE slots of the 512 (R1). -/
def freeCount (s : State) : Nat := Config.storeSlots - s.store.length

/-- The allocated record that holds a key (R1). -/
def findRecord (s : State) (key : Nat) : Option Record := s.store.find? (fun r => r.key == key)

/-- Every allocated record changed by `f`. -/
def mapRecords (f : Record → Record) (s : State) : State := { s with store := s.store.map f }

/-- The record that holds `key` changed by `f`. -/
def updateRecord (key : Nat) (f : Record → Record) (s : State) : State :=
  mapRecords (fun r => if r.key = key then f r else r) s

/-- A record leaves the mailing queue from wherever it stands (R9). -/
def dequeue (key : Nat) (s : State) : State :=
  { s with queue := { s.queue with order := s.queue.order.filter (fun k => k ≠ key) } }

/-- A record is freed (R5): its slot is FREE, and a QUEUED record leaves the queue. -/
def freeRecord (key : Nat) (s : State) : State :=
  dequeue key { s with store := s.store.filter (fun r => r.key ≠ key) }

/-- Several records are freed (R7). -/
def freeRecords (keys : List Nat) (s : State) : State := keys.foldl (fun s k => freeRecord k s) s

/-- Whether the queued key is a NORMAL record, of the normal section (R8). -/
def isNormal (s : State) (key : Nat) : Bool :=
  (findRecord s key).any (fun r => r.kind = .normal)

/-- Whether the queued key is a REMAKE (R15, R57). -/
def isRemake (s : State) (key : Nat) : Bool :=
  (findRecord s key).any (fun r => r.kind = .remake)

/-- The count of NORMAL records in the mailing queue (R25). -/
def normalCount (s : State) : Nat := (s.queue.order.filter (isNormal s)).length

/-- A record returns from the line to the back of the front section as `kind` (R10). -/
def requeue (key : Nat) (kind : Kind) (s : State) : State :=
  let front := s.queue.order.takeWhile (fun k => !isNormal s k)
  let back := s.queue.order.dropWhile (fun k => !isNormal s k)
  updateRecord key (fun r => { r with state := .queued, kind := kind })
    { s with queue := { s.queue with order := front ++ key :: back } }

/-! ### The tracking table -/

/-- The position of a piece: the pitch count less its birth pitch, modulo 2^32 (R51). -/
def position (s : State) (p : Piece) : Nat := (s.line.pitch - p.birthPitch).toNat

/-- The piece that stands at a position (R66). -/
def pieceAt (s : State) (n : Nat) : Option Piece :=
  s.tracking.pieces.find? (fun p => position s p == n)

/-- The piece that holds a piece number (R68). -/
def pieceNumbered (s : State) (n : BitVec 16) : Option Piece :=
  s.tracking.pieces.find? (fun p => p.number == n)

/-- The piece of an IN-FLIGHT record (R2). -/
def pieceOf (s : State) (key : Nat) : Option Piece :=
  s.tracking.pieces.find? (fun p => p.key == key)

/-- Every piece changed by `f`. -/
def mapPieces (f : Piece → Piece) (s : State) : State :=
  { s with tracking := { s.tracking with pieces := s.tracking.pieces.map f } }

/-- The piece that holds a number changed by `f`. -/
def updatePiece (n : BitVec 16) (f : Piece → Piece) (s : State) : State :=
  mapPieces (fun p => if p.number = n then f p else p) s

/-- A piece leaves the tracking table (R87). Its printer job leaves the job list with it (R92), and it is
the previous piece no more (R108: provided that piece is still in the tracking table). -/
def removePiece (n : BitVec 16) (s : State) : State :=
  { s with
    tracking := { s.tracking with pieces := s.tracking.pieces.filter (fun p => p.number ≠ n) }
    carrier := { s.carrier with jobs := s.carrier.jobs.filter (fun j => j ≠ n) }
    verify :=
      { s.verify with
        previous := if s.verify.previous = some n then none else s.verify.previous } }

/-- A defect recorded for a piece (R85): a second finding of one cause at one station adds nothing, be it a
WRAP-ABORT (R114) or a KEY-MISMATCH; a first one is appended to a list of fewer than four, and else
raises the overflow count. DEDUCED (log entry 27): a finding that only raised the overflow count, the
list being full, counts as the first one too. -/
def Piece.withDefect (cause : DefectCause) (station : DefectStation) (p : Piece) : Piece :=
  let d : Defect := { cause := cause, station := station }
  if d ∈ p.defects ∨ d ∈ p.overflowed then p
  else if p.defects.length < 4 then { p with defects := p.defects ++ [d] }
  else { p with overflow := raise 255 p.overflow, overflowed := p.overflowed ++ [d] }

/-- The place of a stage in the stage order (R69). -/
def Stage.rank : Stage → Nat
  | .called => 0 | .fed => 1 | .collating => 2 | .carried => 3 | .verified => 4 | .wrapped => 5
  | .cut => 6 | .gauged => 7 | .passing => 8

/-- A step passed: the stage takes the step's value if that stands later in the stage order (R69). -/
def Piece.passed (stage : Stage) (p : Piece) : Piece :=
  if p.stage.rank < stage.rank then { p with stage := stage } else p

/-- A station records a defect for a piece (R85). -/
def recordDefect (n : BitVec 16) (cause : DefectCause) (station : DefectStation) (s : State) : State :=
  updatePiece n (Piece.withDefect cause station) s

/-- A piece passes a step (R69). -/
def passStep (n : BitVec 16) (stage : Stage) (s : State) : State :=
  updatePiece n (Piece.passed stage) s

/-! ### The plan table -/

/-- The ACTIVE plan of a plan table entry (R32). -/
def planAt (s : State) (i : Nat) : Option Plan := s.planner.plans.getD i none

/-- A plan table entry replaced. -/
def setPlan (i : Nat) (p : Option Plan) (s : State) : State :=
  { s with planner := { s.planner with plans := s.planner.plans.set i p } }

/-- The ordinal entry that a plan reference names (R33). -/
def ordinalAt (s : State) (ref : PlanRef) : Option Ordinal :=
  (planAt s ref.plan).bind (fun p => p.sizes[ref.ordinal]?)

/-- An ordinal entry changed by `f`. -/
def updateOrdinal (ref : PlanRef) (f : Ordinal → Ordinal) (s : State) : State :=
  match planAt s ref.plan with
  | none => s
  | some p => setPlan ref.plan (some { p with sizes := p.sizes.modify ref.ordinal f }) s

/-- The plan table entry that holds the ACTIVE plan of a route (R32). -/
def planOfRoute (s : State) (route : Nat) : Option Nat :=
  s.planner.plans.findIdx? (fun p => p.any (fun q => q.route == route))

/-- The lowest-numbered FREE entry of the plan table (R35). -/
def freePlan (s : State) : Option Nat := s.planner.plans.findIdx? (fun p => p.isNone)

/-! ### The bundle table and the pockets -/

/-- The allocated bundle record with a number (R132). -/
def findBundle (s : State) (n : Nat) : Option Bundle :=
  s.stacker.bundles.find? (fun b => b.number == n)

/-- The bundle record with a number changed by `f`. -/
def updateBundle (n : Nat) (f : Bundle → Bundle) (s : State) : State :=
  { s with
    stacker :=
      { s.stacker with
        bundles := s.stacker.bundles.map (fun b => if b.number = n then f b else b) } }

/-- The bundle that a pocket holds: the one whose pocket field names it (R133). -/
def bundleIn (s : State) (p : PocketId) : Option Bundle :=
  s.stacker.bundles.find? (fun b => b.pocket == some p)

/-- The state of a pocket, which follows the state of the bundle it holds (R133). -/
def pocketState (s : State) (p : PocketId) : PocketState :=
  match bundleIn s p with
  | none => .free
  | some b =>
    match b.state with
    | .held => .held
    | .ejecting => .ejecting
    | .forming | .filling | .closed => .filling

/-- The other pocket. -/
def otherPocket : PocketId → PocketId
  | .a => .b
  | .b => .a

/-- The eject timer of a pocket (R147). -/
def ejectTimer (s : State) : PocketId → EjectTimer
  | .a => s.stacker.ejectA
  | .b => s.stacker.ejectB

/-- The eject timer of a pocket replaced. -/
def setEjectTimer (p : PocketId) (t : EjectTimer) (s : State) : State :=
  match p with
  | .a => { s with stacker := { s.stacker with ejectA := t } }
  | .b => { s with stacker := { s.stacker with ejectB := t } }

/-- The hold age of a bundle: the pitch count less its hold start pitch, modulo 2^32 (R135). -/
def holdAge (s : State) (b : Bundle) : Nat :=
  match b.holdStart with
  | none => 0
  | some start => (s.line.pitch - start).toNat

/-- Whether some bundle record is EJECTING (R57, R177). -/
def anyEjecting (s : State) : Bool := s.stacker.bundles.any (fun b => b.state = .ejecting)

/-- A record enters EXCEPTION with its entry at the back of the list (R6, R152). -/
def enterException (key : Nat) (d : Disposition) (defect : Option DefectCause)
    (piece : Option (BitVec 16)) (s : State) : State :=
  let count := ((findRecord s key).map (fun r => r.remakeCount)).getD 0
  let entry : ExceptionEntry :=
    { key := key, disposition := d, defect := defect, piece := piece, remakeCount := count }
  updateRecord key (fun r => { r with state := .exception, disposition := some d })
    (dequeue key { s with stacker := { s.stacker with exceptions := s.stacker.exceptions ++ [entry] } })

/-! ### Hold causes -/

/-- The stacker unit clears POCKET-WAIT (R136). -/
def clearPocketWait (s : State) : State :=
  { s with holds := { s.holds with causes := { s.holds.causes with pocketWait := false } } }

/-- The stacker unit raises POCKET-WAIT at the mark in progress (R58, R136). -/
def raisePocketWait (s : State) : State :=
  { s with
    holds :=
      { causes := { s.holds.causes with pocketWait := true }
        raised := { s.holds.raised with pocketWait := true } } }

/-- The carrier unit clears PRINTER-WAIT (R99). -/
def clearPrinterWait (s : State) : State :=
  { s with holds := { s.holds with causes := { s.holds.causes with printerWait := false } } }

/-- The carrier unit raises PRINTER-WAIT at the mark in progress (R58, R99). -/
def raisePrinterWait (s : State) : State :=
  { s with
    holds :=
      { causes := { s.holds.causes with printerWait := true }
        raised := { s.holds.raised with printerWait := true } } }

/-! ### The timing units -/

/-- Whether a unit is a PULSE unit; the others are WINDOW units (R158). -/
def isPulse (u : Nat) : Bool := u == 0 || (2 ≤ u && u ≤ 7) || u == 14 || u == 17 || u == 18

/-- A timing unit's state. -/
def unitAt (s : State) (u : Nat) : TimingUnit := s.units.getD u TimingUnit.initial

/-- A timing unit changed by `f`. -/
def updateUnit (u : Nat) (f : TimingUnit → TimingUnit) (s : State) : State :=
  { s with units := s.units.modify u f }

/-- A station tells a PULSE unit to fire in the pitch that the mark begins (R162). -/
def giveOrder (u : Nat) (s : State) : State := updateUnit u (fun t => { t with ordered := true }) s

end Sys2Proof.Machine
end

