-- ==== Sys2Proof/Machine/Flags.lean ====
section
/-! DEFINITION. What the part shows without being asked: the outputs, the busy state, and the six
attention conditions with ATTN. -/

namespace Sys2Proof.Machine

/-- The moving states, in which DRIVE-ON is on (R52). -/
def LineState.moving : LineState → Bool
  | .running | .draining => true
  | .idle | .stopped | .holding | .faulted => false

/-- DRIVE-ON (R52); off while the reset input is asserted (R183). -/
def driveOn (s : State) : Bool := s.line.state.moving && !s.inputs.reset

/-- A long operation is in progress (R176, R187). -/
def busy (s : State) : Bool := s.host.operation.isSome

/-- RDY: low from the taking of a confirm until its completion or abandonment, and while the reset
input is asserted until RDY rises after the release; high at every other time (R183, R187). -/
def rdy (s : State) : Bool := !busy s && !s.inputs.reset && s.startup.rdyIn.isNone

/-- The EJECT output of a pocket (R133, R183). -/
def ejectOutput (s : State) (p : PocketId) : Bool :=
  pocketState s p = .ejecting && !s.inputs.reset

/-- The output of a timing unit: a PULSE unit's line, and U16's gauge strobe (R162, R164, R183). -/
def unitOutput (s : State) (u : Nat) : Bool :=
  ((unitAt s u).pulse.isSome || (u == 16 && (unitAt s u).window.any (fun w => w.enabled)))
    && !s.inputs.reset

/-- The FAULT condition (R62). -/
def faultStands (s : State) : Bool := s.line.first.isSome

/-- The BUNDLE-READY condition (R149). -/
def bundleReadyStands (s : State) : Bool := !s.stacker.closedOrder.isEmpty

/-- The EXCEPTIONS condition (R152). -/
def exceptionsStand (s : State) : Bool := !s.stacker.exceptions.isEmpty

/-- The QUEUE-LOW condition (R25); a drain is in force while the drain flag is set (R52). -/
def queueLowStands (s : State) : Bool :=
  s.line.state ≠ .idle && !s.line.drain && normalCount s ≤ s.queue.lowWater

/-- The SNAPSHOT condition (R192, R194). -/
def snapshotStands (s : State) : Bool :=
  s.host.lineItem.isSome || !s.host.positionItems.isEmpty || !s.host.unitItems.isEmpty

/-- A set of six members as a bit map from bit 0. -/
def bits6 (b0 b1 b2 b3 b4 b5 : Bool) : BitVec 6 :=
  BitVec.ofNat 6
    (b0.toNat + 2 * b1.toNat + 4 * b2.toNat + 8 * b3.toNat + 16 * b4.toNat + 32 * b5.toNat)

/-- The set of standing conditions, in the order of the table of section 10.3 (R189, R191). -/
def standing (s : State) : ConditionSet :=
  bits6 (faultStands s) (bundleReadyStands s) (exceptionsStand s) (queueLowStands s)
    s.verify.printQuality (snapshotStands s)

/-- ATTN: at least one enabled condition stands (R191); not asserted while the reset input is. -/
def attn (s : State) : Bool := (standing s &&& s.host.attention) != 0 && !s.inputs.reset

/-- A fault input is active (R54). -/
def anyFaultInput (s : State) : Bool := s.inputs.jam || s.inputs.filmbrk || s.inputs.guard

/-- No hold cause stands (R54, R59). -/
def HoldSet.isEmpty (h : HoldSet) : Bool := !h.printerWait && !h.pocketWait

end Sys2Proof.Machine
end

