-- ==== Sys2Proof/Machine/Operands.lean ====
section
/-! DEFINITION. The operand forms of the host commands: carrier texts, the conversions that each
setting rule gives its values, the checks of a geometry, and the nominal values of a record. -/

namespace Sys2Proof.Machine

/-! ### Carrier texts (R3, R196 Text) -/

/-- The lines of a text block: 7Fh separates lines, so the text has one line more than it has
separators, and L = 0 is one empty line. -/
def splitLines : List Symbol → List (List Symbol)
  | [] => [[]]
  | c :: cs =>
    match splitLines cs with
    | [] => [[c]]
    | line :: rest => if c = 0x7F#7 then [] :: line :: rest else (c :: line) :: rest

/-- A text block in form: no symbol below 20h, at most 5 separators, no line above 40 characters. -/
def textInForm (t : List Symbol) : Bool :=
  t.all (fun c => 0x20 ≤ c.toNat) && (splitLines t).length ≤ 6
    && (splitLines t).all (fun l => l.length ≤ 40)

/-- The symbols of a text, its lines joined by separators (the block a JOB message carries). -/
def joinLines : List (List Symbol) → List Symbol
  | [] => []
  | [l] => l
  | l :: ls => l ++ 0x7F#7 :: joinLines ls

/-- Every insert of a version is fitted in the current geometry (R11, R19). -/
def versionFitted (g : Geometry) (v : InsertSet) : Bool := v &&& ~~~ g.fitted == 0

/-! ### Nominal values (R29, R30) -/

/-- Settings of insert I(i+1). -/
def insertAt (p : Planner) (i : Nat) : InsertSettings := p.inserts.getD i InsertSettings.initial

/-- The sum of one value over the inserts of a set. -/
def insertSum (p : Planner) (f : InsertSettings → Nat) (v : InsertSet) : Nat :=
  ((List.range 6).map (fun i => if v.getLsbD i then f (insertAt p i) else 0)).sum

/-- The film mass: L × W × g divided by 1,000,000 and rounded half up (R29). -/
def filmMassOf (p : Product) : Nat := (p.cutLength * p.webWidth * p.grammage + 500000) / 1000000

/-- The nominal mass of a version (R29). -/
def nominalMassOf (p : Planner) (v : InsertSet) : Nat :=
  min 4095 (p.product.baseMass + insertSum p (fun i => i.mass) v + p.product.carrierMass + p.filmMass)

/-- The nominal thickness of a version (R30), and the expected thickness of a delivered set (R117). -/
def thicknessOf (p : Planner) (v : InsertSet) : Nat :=
  p.product.baseThickness + insertSum p (fun i => i.thickness) v + p.product.carrierThickness

/-- A record with its nominal values computed again (R14, R20). -/
def withNominals (p : Planner) (r : Record) : Record :=
  { r with nominalMass := nominalMassOf p r.version, nominalThickness := thicknessOf p r.version }

/-! ### Ranges and conversions of the setting commands -/

/-- Whether a value lies in `lo` to `hi`. -/
def inRange (lo hi n : Nat) : Bool := lo ≤ n && n ≤ hi

/-- The seven ranges of SET PRODUCT (R27). -/
def productInRange (p : ProductFields) : Bool :=
  inRange 1 2000 p.baseMass && inRange 1 300 p.baseThickness && inRange 0 50 p.carrierMass
    && inRange 0 20 p.carrierThickness && inRange 100 600 p.cutLength && inRange 200 800 p.webWidth
    && inRange 10 60 p.grammage

/-- The ranges of SET INSERT (R28). -/
def insertInRange (i : InsertFields) : Bool :=
  inRange 1 6 i.number && inRange 0 500 i.mass && inRange 0 100 i.thickness

/-- The Nmax used (R31): 0 stands for 256 and is no clamp. -/
def nmaxUsed (n : Nat) : Nat := if n = 0 then 256 else min 256 n

/-- The Mmax used (R31). -/
def mmaxUsed (m : Nat) : Nat := bringInto 500 30000 m

/-- Whether SET BUNDLE LIMITS clamps a value (R31). -/
def limitsClamped (l : BundleLimitFields) : Bool := l.nmax > 256 || mmaxUsed l.mmax != l.mmax

/-- The values SET REMAKE uses (R130). -/
def remakeUsed (r : RemakeFields) : RemakeFields :=
  { burst := bringInto 1 8 r.burst, remakeLimit := min 7 r.remakeLimit,
    tolerance := bringInto 1 50 r.tolerance }

/-- The largest Lmin or Lmax while this geometry stands (R103). -/
def leadCap (g : Geometry) : Nat := if g.isSet then min 32 (4 * (g.cOff - 1)) else 32

/-- The values SET PRINTER uses (R103). -/
def printerUsed (g : Geometry) (p : PrinterFields) : PrinterFields :=
  { lmin := bringInto 4 (leadCap g) p.lmin, lmax := bringInto 4 (leadCap g) p.lmax,
    upStep := bringInto 1 8 p.upStep, downStep := bringInto 1 8 p.downStep,
    waitThreshold := bringInto 1 16 p.waitThreshold, marginThreshold := min 15 p.marginThreshold }

/-- The values SET UNIT uses (R160). -/
def unitUsed (g : Geometry) (u : UnitFields) : UnitFields :=
  { u with
    on := min (g.c - 1) u.on
    off := min (g.c - 1) u.off
    latency := if isPulse u.unit then min 50000 u.latency else 0 }

/-- The settings that the used values of a SET UNIT make. -/
def unitSettings (u : UnitFields) : UnitSettings :=
  { enable := u.enable, on := u.on, off := u.off, latency := u.latency }

/-- The values SET HOLD uses (R60, R156). -/
def holdUsed (h : HoldFields) : HoldFields :=
  { lineLimit := min 60000 h.lineLimit, bundleLimit := min 255 h.bundleLimit,
    ejectLimit := bringInto 100 10000 h.ejectLimit }

/-- The values JOB SETUP uses (R174). -/
def jobUsed (j : JobFields) : JobFields :=
  { lowWater := min 511 j.lowWater, start := bringInto 4 32 j.start }

/-! ### Geometry (R50) -/

/-- The offsets of the fitted inserts of a SET GEOMETRY, in insert order. -/
def fittedOffsets (g : GeometryFields) : List Nat :=
  ((List.range 6).filter (fun i => g.fitted.getLsbD i)).map (fun i => g.offsets.getD i 0)

/-- The checks of R50 that do not look at the loaded records. -/
def geometryInRange (g : GeometryFields) : Bool :=
  inRange 100 2000 g.c && 2 ≤ g.cOff
    && (fittedOffsets g).all (fun o => inRange 1 (g.cOff - 1) o)
    && decide (fittedOffsets g).Nodup
    && g.cOff < g.v && g.v < g.w && g.w < g.x && g.x < g.g && g.g < g.d && g.d < g.s && g.s ≤ 63

/-- The station map an accepted SET GEOMETRY makes: offsets of inserts not fitted are ignored. -/
def geometryOf (g : GeometryFields) : Geometry :=
  { isSet := true, c := g.c, fitted := g.fitted,
    offsets := (List.range 6).map (fun i => if g.fitted.getLsbD i then g.offsets.getD i 0 else 0),
    cOff := g.cOff, v := g.v, w := g.w, x := g.x, g := g.g, d := g.d, s := g.s }

/-- The last check of R50: every insert named in the version of an allocated record is fitted. -/
def recordsFitted (store : List Record) (g : Geometry) : Bool :=
  store.all (fun r => versionFitted g r.version)

/-- The offset of insert station I(i+1), absent when the insert is not fitted (R50). -/
def insertOffset (g : Geometry) (i : Nat) : Option Nat :=
  if g.fitted.getLsbD i then g.offsets[i]? else none

end Sys2Proof.Machine
end

