-- ==== Sys2Proof/Machine/Bundles.lean ====
section
/-! DEFINITION. The stacker unit's acts on bundle records and pockets: reservation, the pocket request,
closing, force closing, freeing without a close, and the completion test (chapter 7). -/

namespace Sys2Proof.Machine

/-! ### The pocket request (R134, R136) -/

/-- The pocket request becomes absent and POCKET-WAIT is cleared (R136). -/
def clearRequest (s : State) : State :=
  clearPocketWait { s with stacker := { s.stacker with request := none } }

/-- A pocket is reserved for a bundle (R134): the pocket is FILLING with it and becomes the last
reserved pocket. A request for this bundle is thereby answered (R136). -/
def reserve (p : PocketId) (n : Nat) (s : State) : State :=
  let s1 := updateBundle n (fun b => { b with pocket := some p })
    { s with stacker := { s.stacker with lastReserved := some p } }
  if s.stacker.request = some n then clearRequest s1 else s1

/-- The FREE pocket that the look-ahead reserves (R134): the one FREE pocket, or, of two, the one that
is not the last reserved pocket, pocket A when that is absent. -/
def choosePocket (s : State) : Option PocketId :=
  match pocketState s .a, pocketState s .b with
  | .free, .free => if s.stacker.lastReserved = some .a then some .b else some .a
  | .free, _ => some .a
  | _, .free => some .b
  | _, _ => none

/-- The request is examined when a pocket becomes FREE: the pocket is reserved for the requested
bundle (R136). -/
def answerRequest (s : State) : State :=
  match s.stacker.request, choosePocket s with
  | some n, some p => reserve p n s
  | _, _ => s

/-! ### Closing a bundle (R144, R145) -/

/-- One queued REMAKE of a closed bundle goes to EXCEPTION as LATE-UNMADE while the list holds fewer
entries than 128 less the count of pieces in the tracking table (R145). -/
def lateUnmade (key : Nat) (s : State) : State :=
  if s.stacker.exceptions.length < Config.exceptionSlots - s.tracking.pieces.length then
    enterException key .lateUnmade ((findRecord s key).bind (fun r => r.lastDefect)) none s
  else s

/-- The queued REMAKEs that hold a bundle number, in queue order (R145). -/
def queuedRemakesOf (s : State) (n : Nat) : List Nat :=
  s.queue.order.filter
    (fun k => (findRecord s k).any (fun r => decide (r.kind = .remake) && r.bundle == some n))

/-- A bundle record as its close leaves it (R144). -/
def Bundle.closedWith (reason : CloseReason) (b : Bundle) : Bundle :=
  { b with
    state := .ejecting
    reason := some reason
    short := decide (b.stackedCount < b.plannedCount)
    claim := false }

/-- The close of a bundle: one act of the stacker unit (R144, R145). -/
def closeBundle (n : Nat) (reason : CloseReason) (s : State) : State :=
  match findBundle s n with
  | none => s
  | some b =>
    let s1 := updateBundle n (Bundle.closedWith reason) s
    let s2 := match b.pocket with
      | none => s1
      | some p => setEjectTimer p EjectTimer.stopped s1
    (queuedRemakesOf s2 n).foldl (fun s k => lateUnmade k s) s2

/-- A bundle is complete: planned-final, and its stacked count, at least 1, equals its planned count
(R142). -/
def Bundle.isComplete (b : Bundle) : Bool :=
  b.final && 1 ≤ b.stackedCount && b.stackedCount == b.plannedCount

/-- The completion test (R142): a complete bundle in FILLING or HELD closes with reason PLANNED. -/
def completionTest (n : Nat) (s : State) : State :=
  match findBundle s n with
  | none => s
  | some b =>
    if (b.state = .filling ∨ b.state = .held) ∧ b.isComplete then closeBundle n .planned s else s

/-! ### Force close (R135, R136) -/

/-- A HELD bundle whose claim flag is clear. -/
def Bundle.heldUnclaimed (b : Bundle) : Bool := decide (b.state = .held) && !b.claim

/-- The bundle a force close takes: of the pockets' HELD unclaimed bundles, the one with the largest
hold age (R135). -/
def forceChoice (s : State) : Option Nat :=
  let a := (bundleIn s .a).filter Bundle.heldUnclaimed
  let b := (bundleIn s .b).filter Bundle.heldUnclaimed
  match a, b with
  | some x, some y => some (if holdAge s y > holdAge s x then y.number else x.number)
  | some x, none => some x.number
  | none, some y => some y.number
  | none, none => none

/-- A HELD unclaimed bundle is force-closed for a standing request while no pocket is FREE, and
POCKET-WAIT is raised (R136). -/
def forceForRequest (n : Nat) (s : State) : State :=
  if s.stacker.request.isSome && (choosePocket s).isNone then
    raisePocketWait (closeBundle n .forced s)
  else s

/-- The pocket look-ahead for a bundle (R134): it acts only when the bundle is FORMING and has no
pocket. -/
def lookAheadFor (n : Nat) (s : State) : State :=
  match findBundle s n with
  | none => s
  | some b =>
    if b.state = .forming ∧ b.pocket = none then
      match choosePocket s with
      | some p => reserve p n s
      | none =>
        let s1 := { s with stacker := { s.stacker with request := some n } }
        let s2 := match forceChoice s1 with
          | some m => closeBundle m .forced s1
          | none => s1
        if pocketState s2 .a = .ejecting ∨ pocketState s2 .b = .ejecting then raisePocketWait s2
        else s2
    else s

/-! ### Freeing a bundle without a close (R148, R155) -/

/-- A bundle record becomes FREE, and the records that held its number lose it (R3). -/
def eraseBundle (n : Nat) (s : State) : State :=
  mapRecords (fun r => if r.bundle = some n then { r with bundle := none } else r)
    { s with stacker := { s.stacker with bundles := s.stacker.bundles.filter (fun b => b.number ≠ n) } }

/-- A bundle is freed without closing: the report and the count are made (R148), a request that named
it becomes absent, and a pocket reserved for it becomes FREE (R136, R155). -/
def freeUnclosed (n : Nat) (reason : CloseReason) (s : State) : State :=
  match findBundle s n with
  | none => s
  | some b =>
    let s1 := eraseBundle n s
    let s2 :=
      { s1 with
        stacker :=
          { s1.stacker with
            lastFreed := some { bundle := n, route := b.route, reason := reason }
            freedCount := raise top16 s1.stacker.freedCount } }
    let s3 := if s.stacker.request = some n then clearRequest s2 else s2
    if b.pocket.isSome then answerRequest s3 else s3

end Sys2Proof.Machine
end

