-- ==== Sys2Proof/Machine/Plans.lean ====
section
/-! DEFINITION. The bundle planner: retirement, finality, departures, plan making, growth, and the
allocation of bundle records (chapter 2, R74, R75). -/

namespace Sys2Proof.Machine

/-! ### Retirement (R42) -/

/-- An ordinal that no longer keeps its plan ACTIVE (R42). -/
def ordinalDone (s : State) (o : Ordinal) : Bool :=
  o.final && match o.status with
    | .skipped | .emptied | .released => true
    | .allocated n => (findBundle s n).any (fun b => b.state = .closed)
    | .waiting => false

/-- A plan retires: its entry becomes FREE, and every QUEUED or IN-FLIGHT record whose plan reference
names it loses that reference (R42). -/
def retirePlan (i : Nat) (s : State) : State :=
  mapRecords
    (fun r =>
      if (r.state = .queued ∨ r.state = .inFlight) ∧ r.planRef.any (fun f => f.plan == i) then
        { r with planRef := none }
      else r)
    (setPlan i none s)

/-- The retirement test of one plan (R42). -/
def retirementTest (i : Nat) (s : State) : State :=
  match planAt s i with
  | none => s
  | some p => if p.sizes.all (ordinalDone s) then retirePlan i s else s

/-! ### Finality (R38) -/

/-- An ordinal becomes final: its flag and its bundle's planned-final flag are set in the same act;
the completion test and the retirement test follow (R38, R42, R142). -/
def finaliseOrdinal (ref : PlanRef) (s : State) : State :=
  match ordinalAt s ref with
  | none => s
  | some o =>
    let s1 := updateOrdinal ref (fun o => { o with final := true }) s
    let s2 := match o.status with
      | .allocated n => completionTest n (updateBundle n (fun b => { b with final := true }) s1)
      | .waiting | .skipped | .emptied | .released => s1
    retirementTest ref.plan s2

/-- The current ordinal of an OPEN plan becomes final, if it is not already (R38). -/
def finaliseCurrent (i : Nat) (s : State) : State :=
  match planAt s i with
  | none => s
  | some p =>
    match p.kind with
    | .complete => s
    | .openAt c =>
      if (p.sizes[c]?).any (fun o => !o.final) then finaliseOrdinal { plan := i, ordinal := c } s
      else s

/-- A birth at which the planner plans a record finalises the current ordinal of every OPEN plan of
another route (R34, R38). -/
def finaliseOthers (route : Nat) (s : State) : State :=
  (List.range Config.planSlots).foldl
    (fun s i => if (planAt s i).any (fun p => p.route != route) then finaliseCurrent i s else s) s

/-- A plan becomes closed to growth: its current ordinal becomes final (R38). -/
def closeToGrowth (i : Nat) (s : State) : State :=
  match planAt s i with
  | none => s
  | some p => finaliseCurrent i (setPlan i (some { p with closedToGrowth := true }) s)

/-! ### Departures (R39, R40) -/

/-- One record's fall of an ordinal's planned count and planned mass, never below the stacked count of
its bundle (R39). -/
def Ordinal.fall (stacked mass : Nat) (o : Ordinal) : Ordinal :=
  { o with count := max stacked (o.count - 1), mass := o.mass - mass }

/-- The same fall of the ordinal's bundle record (R39). -/
def Bundle.fall (mass : Nat) (b : Bundle) : Bundle :=
  { b with plannedCount := max b.stackedCount (b.plannedCount - 1), plannedMass := b.plannedMass - mass }

/-- The hand-offs after the fall of an ALLOCATED ordinal (R39, R40): an emptied bundle is freed, a
complete one closes. -/
def departHandOff (ref : PlanRef) (n : Nat) (s : State) : State :=
  match findBundle s n with
  | none => s
  | some b =>
    if b.plannedCount = 0 ∧ b.stackedCount = 0 then
      retirementTest ref.plan
        (updateOrdinal ref (fun o => { o with status := .emptied, final := true })
          (freeUnclosed n .emptied s))
    else completionTest n s

/-- The departure of a record with its plan reference and nominal mass (R39). The record has already
left its place. -/
def departFrom (ref : PlanRef) (mass : Nat) (s : State) : State :=
  match ordinalAt s ref with
  | none => s
  | some o =>
    match o.status with
    | .waiting =>
      let s1 := updateOrdinal ref (Ordinal.fall 0 mass) s
      if o.count - 1 = 0 then
        retirementTest ref.plan (updateOrdinal ref (fun o => { o with status := .skipped }) s1)
      else s1
    | .allocated n =>
      match findBundle s n with
      | none => s
      | some b =>
        if b.state = .forming ∨ b.state = .filling ∨ b.state = .held then
          departHandOff ref n
            (updateBundle n (Bundle.fall mass)
              (updateOrdinal ref (Ordinal.fall b.stackedCount mass) s))
        else s
    | .skipped | .emptied | .released => s

/-- A departure of a record (R39): nothing happens for a record without a plan reference. -/
def depart (r : Record) (s : State) : State :=
  match r.planRef with
  | none => s
  | some ref => departFrom ref r.nominalMass s

/-! ### The cases of a birth (R34) -/

/-- The four cases of R34. -/
inductive BirthCase where
  | planned
  | waiting (ref : PlanRef)
  | newRoute
  | growing (plan : Nat)
  deriving DecidableEq, Repr

/-- The case of a candidate (R34). A reference to a RELEASED ordinal is treated as absent; so is one to
an ordinal that holds no record (SKIPPED, EMPTIED) or to a FREE entry, which no queued record has. -/
def birthCase (s : State) (r : Record) : BirthCase :=
  let fresh := match planOfRoute s r.route with
    | some i => BirthCase.growing i
    | none => BirthCase.newRoute
  match r.planRef with
  | none => fresh
  | some ref =>
    match ordinalAt s ref with
    | none => fresh
    | some o =>
      match o.status with
      | .allocated _ => .planned
      | .waiting => .waiting ref
      | .skipped | .emptied | .released => fresh

/-- A record without a usable plan reference (R34, R35). -/
def unplanned (s : State) (r : Record) : Bool :=
  match birthCase s r with
  | .planned | .waiting _ => false
  | .newRoute | .growing _ => true

/-! ### Making a plan (R35, R36) -/

/-- The members an ordinal takes after its first one (R36 step 5): `room` more at most, while the mass
stays at most Mmax. -/
def fillOrdinal (mmax : Nat) : Nat → Nat → List Record → List Record
  | _, _, [] => []
  | 0, _, _ :: _ => []
  | room + 1, mass, r :: rest =>
    if mass + r.nominalMass ≤ mmax then r :: fillOrdinal mmax room (mass + r.nominalMass) rest else []

/-- The sum of the nominal masses of some members. -/
def massOf (rs : List Record) : Nat := (rs.map (fun r => r.nominalMass)).sum

/-- The target size of the next ordinal (R36 steps 1 to 4) for n' members of mass M'. -/
def targetSize (nmax mmax n m : Nat) : Nat :=
  ceilDiv n (min n (max (ceilDiv n nmax) (ceilDiv m mmax)))

/-- The division of a COMPLETE plan's members, one list for each ordinal (R36). `fuel` is at least the
count of members. -/
def divideMembers (nmax mmax : Nat) : Nat → List Record → List (List Record)
  | 0, _ => []
  | _ + 1, [] => []
  | fuel + 1, r :: rest =>
    let size := targetSize nmax mmax (rest.length + 1) (massOf (r :: rest))
    let taken := r :: fillOrdinal mmax (size - 1) r.nominalMass rest
    taken :: divideMembers nmax mmax fuel ((r :: rest).drop taken.length)

/-- The ordinal entry of a group of members, final from the start (R36, R38). -/
def ordinalOf (mmax : Nat) (members : List Record) : Ordinal :=
  { count := members.length, mass := massOf members, final := true,
    overmass := decide (massOf members > mmax), status := .waiting }

/-- Whether a list of the normal section holds a record of the route carrying the end-of-route flag
before any record of another route (R35). -/
def routeEnds (route : Nat) : List Record → Bool
  | [] => false
  | r :: rest => r.route == route && (r.endOfRoute || routeEnds route rest)

/-- The QUEUED records in queue order. -/
def queuedRecords (s : State) : List Record := s.queue.order.filterMap (findRecord s)

/-- The normal section, from the candidate when it is NORMAL (R35). -/
def routeSearch (s : State) (r : Record) : List Record :=
  let normal := (queuedRecords s).filter (fun q => q.kind = .normal)
  if r.kind = .normal then normal.dropWhile (fun q => q.key ≠ r.key) else normal

/-- The members of a COMPLETE plan (R35): the candidate, then every other QUEUED record of the route
without a usable plan reference, in queue order. -/
def planMembers (s : State) (r : Record) : List Record :=
  (r :: (queuedRecords s).filter
    (fun q => q.key ≠ r.key && q.route == r.route && unplanned s q)).take Config.maxOrdinals

/-- Every member of a group takes a plan reference to its ordinal, numbered from `o` (R35). -/
def assignRefs (plan : Nat) : Nat → List (List Record) → State → State
  | _, [], s => s
  | o, group :: groups, s =>
    assignRefs plan (o + 1) groups
      (mapRecords
        (fun r =>
          if r.key ∈ group.map (fun m => m.key) then
            { r with planRef := some { plan := plan, ordinal := o } }
          else r) s)

/-- A plan of one route is made in entry `i` (R35). Ordinal 0 is WAITING until the birth allocates its
bundle in the same act. -/
def makePlan (i : Nat) (r : Record) (s : State) : State :=
  if routeEnds r.route (routeSearch s r) then
    let members := planMembers s r
    let groups := divideMembers s.planner.nmax s.planner.mmax members.length members
    assignRefs i 0 groups
      (setPlan i
        (some
          { route := r.route, kind := .complete, nmax := s.planner.nmax, mmax := s.planner.mmax,
            sizes := groups.map (ordinalOf s.planner.mmax), closedToGrowth := false }) s)
  else
    updateRecord r.key (fun q => { q with planRef := some { plan := i, ordinal := 0 } })
      (setPlan i
        (some
          { route := r.route, kind := .openAt 0, nmax := s.planner.nmax, mmax := s.planner.mmax,
            sizes :=
              [{ count := 1, mass := r.nominalMass, final := r.endOfRoute,
                 overmass := decide (r.nominalMass > s.planner.mmax), status := .waiting }],
            closedToGrowth := false }) s)

/-! ### Growth (R37) -/

/-- The current ordinal that a case-4 candidate joins, when the four conditions of R37 hold. -/
def growthJoins (s : State) (p : Plan) (r : Record) : Option Nat :=
  match p.kind with
  | .complete => none
  | .openAt c =>
    match p.sizes[c]? with
    | none => none
    | some o =>
      match o.status with
      | .allocated n =>
        if !o.final
            && (findBundle s n).any (fun b => decide (b.state = .forming ∨ b.state = .filling))
            && decide (o.count < p.nmax) && decide (o.mass + r.nominalMass ≤ p.mmax) then some c
        else none
      | .waiting | .skipped | .emptied | .released => none

/-- Whether a case-4 birth would add an ordinal beyond the 512th (R38). -/
def growthBlocked (s : State) (p : Plan) (r : Record) : Bool :=
  p.closedToGrowth
    || ((growthJoins s p r).isNone && decide (Config.maxOrdinals ≤ p.sizes.length))

/-- A candidate joins an ordinal: its count and mass rise with those of its bundle (R37). -/
def joinOrdinal (ref : PlanRef) (r : Record) (s : State) : State :=
  let s1 := updateOrdinal ref
    (fun o => { o with count := o.count + 1, mass := o.mass + r.nominalMass }) s
  match ordinalAt s ref with
  | none => s
  | some o =>
    match o.status with
    | .allocated n =>
      updateBundle n
        (fun b =>
          { b with
            plannedCount := b.plannedCount + 1
            plannedMass := b.plannedMass + r.nominalMass }) s1
    | .waiting | .skipped | .emptied | .released => s1

/-- The ordinal entry that a candidate opens (R37). -/
def openedOrdinal (p : Plan) (r : Record) : Ordinal :=
  { count := 1, mass := r.nominalMass,
    final := match p.kind with
      | .complete => true
      | .openAt _ => false
    overmass := decide (r.nominalMass > p.mmax), status := .waiting }

/-- A candidate opens the next ordinal (R37); the previous current ordinal of an OPEN plan becomes
final (R38). -/
def openOrdinal (i : Nat) (p : Plan) (r : Record) (s : State) : State :=
  let sizes := p.sizes ++ [openedOrdinal p r]
  match p.kind with
  | .complete => setPlan i (some { p with sizes := sizes }) s
  | .openAt c =>
    let s1 := setPlan i (some { p with sizes := sizes, kind := .openAt p.sizes.length }) s
    if (p.sizes[c]?).any (fun o => !o.final) then finaliseOrdinal { plan := i, ordinal := c } s1 else s1

/-! ### Allocation of a bundle record (R74, R75) -/

/-- The bundle counter after one rise (R75). -/
def nextBundleNumber (n : Nat) : Nat := if n < 65535 then n + 1 else 1

/-- The number given: the counter passes over the numbers of bundle records still allocated (R75). -/
def freeBundleNumber (used : List Nat) : Nat → Nat → Nat
  | 0, n => n
  | fuel + 1, n => if n ∈ used then freeBundleNumber used fuel (nextBundleNumber n) else n

/-- A bundle record is allocated for an ordinal of a route (R33, R74, R75). -/
def allocateBundle (ref : PlanRef) (route : Nat) (s : State) : State :=
  match ordinalAt s ref with
  | none => s
  | some o =>
    let n := freeBundleNumber (s.stacker.bundles.map (fun b => b.number)) Config.bundleSlots
      s.stacker.counter
    let b : Bundle :=
      { number := n, route := route, plan := ref.plan, ordinal := ref.ordinal, state := .forming,
        pocket := none, plannedCount := o.count, plannedMass := o.mass, final := o.final,
        overmass := o.overmass, stackedCount := 0, stackedMass := 0, members := [], short := false,
        reason := none, holdStart := none, claim := false }
    mapRecords
      (fun r =>
        if (r.state = .queued ∨ r.state = .inFlight) ∧ r.planRef = some ref then
          { r with bundle := some n }
        else r)
      (updateOrdinal ref (fun o => { o with status := .allocated n })
        { s with
          stacker :=
            { s.stacker with
              bundles := s.stacker.bundles ++ [b]
              counter := nextBundleNumber n } })

/-! ### Drain completion (R43) -/

/-- Every ordinal of every ACTIVE plan becomes final with its bundle's planned-final flag; then every
plan retires, whatever the states of its bundles (R43). -/
def finaliseAtDrain (s : State) : State :=
  let held (b : Bundle) : Bool :=
    (planAt s b.plan).any (fun p => (p.sizes[b.ordinal]?).any (fun o => o.status == .allocated b.number))
  let s1 :=
    { s with
      stacker :=
        { s.stacker with
          bundles := s.stacker.bundles.map (fun b => if held b then { b with final := true } else b) } }
  (List.range Config.planSlots).foldl (fun s i => retirePlan i s) s1

end Sys2Proof.Machine
end

