-- ==== Sys2Proof/Machine/CarrierUnit.lean ====
section
/-! DEFINITION. The carrier unit: the transmit order, dispatch, cancellation, the waiting marks and
PRINTER-WAIT, the lead and its adaptation window (sections 5.1 to 5.3). -/

namespace Sys2Proof.Machine

/-! ### The transmit order (R90) -/

/-- A message is produced: it waits behind the message in transmission and every earlier one (R90). -/
def produce (m : PrinterMessage) (s : State) : State :=
  let waiting := s.carrier.waiting ++ [m]
  match s.carrier.transmitting with
  | none =>
    { s with carrier := { s.carrier with transmitting := waiting.head?, waiting := waiting.tail } }
  | some _ => { s with carrier := { s.carrier with waiting := waiting } }

/-- A waiting message is the JOB message of a piece. -/
def PrinterMessage.isJobOf (n : BitVec 16) : PrinterMessage → Bool
  | .job k _ => k == n
  | .cancel _ | .cancelAll => false

/-- A CANCEL is produced for a job: a JOB message still waiting is removed instead, and then no CANCEL
is transmitted (R90). -/
def produceCancel (n : BitVec 16) (s : State) : State :=
  if s.carrier.waiting.any (PrinterMessage.isJobOf n) then
    { s with
      carrier :=
        { s.carrier with waiting := s.carrier.waiting.filter (fun m => !m.isJobOf n) } }
  else produce (.cancel n) s

/-- A CANCEL ALL removes every waiting message and is transmitted next (R90). -/
def produceCancelAll (s : State) : State :=
  produce .cancelAll { s with carrier := { s.carrier with waiting := [] } }

/-- The transmission of a message is complete: the next waiting message starts (R90). -/
def transmitNext (s : State) : State :=
  { s with
    carrier :=
      { s.carrier with
        transmitting := s.carrier.waiting.head?
        waiting := s.carrier.waiting.tail } }

/-! ### PRINTER-WAIT (R99) -/

/-- A job marked waiting that is still DUE or SENT (R99). -/
def Piece.keepsWaiting (p : Piece) : Bool :=
  p.waiting && (decide (p.job = .due) || decide (p.job = .sent))

/-- PRINTER-WAIT is cleared when the last job marked waiting has left DUE and SENT (R99). -/
def updatePrinterWait (s : State) : State :=
  if s.tracking.pieces.any Piece.keepsWaiting then s else clearPrinterWait s

/-! ### Dispatch (R95) -/

/-- A job is sent: its JOB message carries the piece number and the text of its address record; the
job becomes SENT and joins the job list (R92, R95). -/
def sendJob (p : Piece) (s : State) : State :=
  let s1 := updatePiece p.number (fun q => { q with job := .sent }) s
  produce (.job p.number (((findRecord s p.key).map (fun r => r.text)).getD []))
    { s1 with carrier := { s1.carrier with jobs := s1.carrier.jobs ++ [p.number] } }

/-- DUE jobs are sent in birth order, up to the first NONE or DUE job that cannot be sent (R95). -/
def dispatchFrom : List Piece → State → State
  | [], s => s
  | p :: rest, s =>
    match p.job with
    | .none => s
    | .due =>
      if s.carrier.jobs.length < Config.maxOutstanding ∧ s.carrier.ready then
        dispatchFrom rest (sendJob p s)
      else s
    | .sent | .accepted | .printed | .refused | .cancelled => dispatchFrom rest s

/-- A dispatch (R95): the tracking table holds its pieces in birth order. -/
def dispatch (s : State) : State := dispatchFrom s.tracking.pieces s

/-! ### Jobs that end (R92, R96, R97, R100, R101) -/

/-- A job leaves the job list in a new state; the departure attempts a dispatch (R92, R95). -/
def resolveJob (n : BitVec 16) (j : JobState) (s : State) : State :=
  let s1 := updatePiece n (fun q => { q with job := j }) s
  dispatch
    (updatePrinterWait
      { s1 with carrier := { s1.carrier with jobs := s1.carrier.jobs.filter (fun k => k ≠ n) } })

/-- The carrier unit cancels the job of a piece in the table (R100, R101): NONE and DUE without a
message, SENT and ACCEPTED with CANCEL; other states are unchanged. -/
def cancelJob (p : Piece) (s : State) : State :=
  match p.job with
  | .none | .due => updatePrinterWait (updatePiece p.number (fun q => { q with job := .cancelled }) s)
  | .sent | .accepted => resolveJob p.number .cancelled (produceCancel p.number s)
  | .printed | .refused | .cancelled => s

/-- The printer job of a piece removed by MAG-MISS goes with it (R78, R101): CANCEL for an outstanding
one, whose departure attempts a dispatch. -/
def removeWithJob (p : Piece) (s : State) : State :=
  match p.job with
  | .sent | .accepted =>
    dispatch (updatePrinterWait (removePiece p.number (produceCancel p.number s)))
  | .none | .due | .printed | .refused | .cancelled => updatePrinterWait (removePiece p.number s)

/-! ### The lead (R93, R103 to R105) -/

/-- The integer lead of a birth and the accumulator after it (R93). -/
def leadStep (lq accumulator : Nat) : Nat × Nat :=
  let raised := accumulator + lq % 4
  if 4 ≤ raised then (lq / 4 + 1, raised - 4) else (lq / 4, raised)

/-- One wait check counted in the adaptation window (R104); a full window is evaluated in the act. -/
def Carrier.countCheck (marked : Bool) (c : Carrier) : Carrier :=
  let n := c.windowCount + 1
  let w := if marked then c.waits + 1 else c.waits
  if 16 ≤ n then
    let lq := if c.waitThreshold ≤ w then c.lq + c.upStep
      else if w = 0 then c.lq - c.downStep
      else c.lq
    { c with lq := bringInto c.lmin c.lmax lq, windowCount := 0, waits := 0 }
  else { c with windowCount := n, waits := w }

/-- The wait check on the job of the piece that reaches C_off - 1 (R99, R104). -/
def waitCheck (p : Piece) (s : State) : State :=
  match p.job with
  | .due | .sent =>
    let s1 := raisePrinterWait (updatePiece p.number (fun q => { q with waiting := true }) s)
    { s1 with carrier := s1.carrier.countCheck true }
  | .accepted | .printed => { s with carrier := s.carrier.countCheck false }
  | .none | .refused | .cancelled => s

/-- A NONE job whose piece stands at C_off minus the job's lead becomes DUE (R94). -/
def Piece.becomesDue (cOff at_ : Nat) (p : Piece) : Bool :=
  decide (p.job = .none) && at_ + p.lead == cOff

/-- The printer jobs at a pitch mark: jobs become DUE and a dispatch is attempted (R94, R95), then the
wait check is made (R99). -/
def printerJobsAtMark (s : State) : State :=
  let due (p : Piece) : Bool := p.becomesDue s.geometry.cOff (position s p)
  let s1 := mapPieces (fun p => if due p then { p with job := .due } else p) s
  let s2 := if s.tracking.pieces.any due then dispatch s1 else s1
  match pieceAt s2 (s.geometry.cOff - 1) with
  | none => s2
  | some p => waitCheck p s2

/-- The carrier arrival: U14 is told to fire for a job ACCEPTED or PRINTED (R98). -/
def carrierArrival (s : State) : State :=
  match pieceAt s s.geometry.cOff with
  | none => s
  | some p => if p.job = .accepted ∨ p.job = .printed then giveOrder 14 s else s

/-- The verify arrival settles the piece's job (R100); then the piece joins the expected-read list
(R107). -/
def verifyArrival (s : State) : State :=
  match pieceAt s s.geometry.v with
  | none => s
  | some p =>
    let s1 :=
      if p.job = .printed then passStep p.number .carried s
      else recordDefect p.number .noPrint .carrier (cancelJob p s)
    { s1 with verify := { s1.verify with expected := s1.verify.expected ++ [p.number] } }

end Sys2Proof.Machine
end

