-- ==== Sys2Proof/Machine/Stations.lean ====
section
/-! DEFINITION. The stations that judge a piece: magazine, inserts, cut and gauge take the results of
their windows (sections 4.4, 4.5, 6.2, 6.3), and the verify unit takes timeouts (R110). -/

namespace Sys2Proof.Machine

/-- The result of a window (R164, R165): the edge count 0, 1 or 2 ("2 or more"), or absent. -/
inductive EdgeResult where
  | absent
  | edges (n : Nat)
  deriving DecidableEq, Repr

/-- The edge result of a window at its close (R164, R165). -/
def OpenWindow.result (w : OpenWindow) : EdgeResult := if w.enabled then .edges w.edges else .absent

/-- MAG-MISS (R78): the piece leaves the table with its job; its record returns to the front section as
RETURN, or, with withdraw-pending set, is freed with a departure (R10). -/
def magMiss (p : Piece) (s : State) : State :=
  let s1 := removeWithJob p s
  match findRecord s p.key with
  | none => s1
  | some r =>
    if r.withdrawPending then depart r (freeRecord p.key s1) else requeue p.key .return s1

/-- The magazine station takes a result for the piece born in the window's pitch, if it is still in the
table (R77, R78, R80). -/
def magazineResult (w : OpenWindow) (s : State) : State :=
  match w.piece.bind (pieceNumbered s) with
  | none => s
  | some p =>
    match w.result with
    | .absent => passStep p.number .fed s
    | .edges 0 => magMiss p s
    | .edges 1 => passStep p.number .fed s
    | .edges _ => recordDefect p.number .magDouble .magazine s

/-- An insert is added to the delivered set (R83). -/
def deliver (n : BitVec 16) (i : Insert) (s : State) : State :=
  updatePiece n (fun p => { p with delivered := p.delivered ||| BitVec.twoPow 6 i.val }) s

/-- Insert station I(i+1) takes a result for the called piece (R82, R83). -/
def insertResult (i : Insert) (w : OpenWindow) (s : State) : State :=
  match w.piece.bind (pieceNumbered s) with
  | none => s
  | some p =>
    if p.version.getLsbD i.val then
      match w.result with
      | .absent => passStep p.number .collating (deliver p.number i s)
      | .edges 0 =>
        if (insertAt s.planner i.val).required then recordDefect p.number .insertMiss (.insert i) s
        else passStep p.number .collating s
      | .edges 1 => passStep p.number .collating (deliver p.number i s)
      | .edges _ => recordDefect p.number .insertDouble (.insert i) (deliver p.number i s)
    else s

/-- The cut station takes a result (R115, R116). -/
def cutResult (w : OpenWindow) (s : State) : State :=
  match w.piece.bind (pieceNumbered s) with
  | none => s
  | some p =>
    match w.result with
    | .absent => passStep p.number .cut s
    | .edges 0 => passStep p.number .cut s
    | .edges _ => recordDefect p.number .cutFault .cut s

/-- The gauge judges a measured value against the expected thickness and the tolerance (R118). -/
def gaugeJudge (p : Piece) (value : Nat) (s : State) : State :=
  let expected := thicknessOf s.planner p.delivered
  let s1 := updatePiece p.number (fun q => { q with thickness := some value }) s
  if value + s.diverter.tolerance < expected then recordDefect p.number .thickLow .gauge s1
  else if expected + s.diverter.tolerance < value then recordDefect p.number .thickHigh .gauge s1
  else passStep p.number .gauged s1

/-- The gauge station takes a result: GAUGE is sampled at the close of U16 (R118, R119). -/
def gaugeResult (w : OpenWindow) (s : State) : State :=
  match w.piece.bind (pieceNumbered s) with
  | none => s
  | some p => if w.enabled then gaugeJudge p s.inputs.gauge s else passStep p.number .gauged s

/-- The station that takes the result of a WINDOW unit (table of section 8.1). -/
def deliverResult (u : Nat) (w : OpenWindow) (s : State) : State :=
  match u with
  | 1 => magazineResult w s
  | 8 => insertResult 0 w s
  | 9 => insertResult 1 w s
  | 10 => insertResult 2 w s
  | 11 => insertResult 3 w s
  | 12 => insertResult 4 w s
  | 13 => insertResult 5 w s
  | 15 => cutResult w s
  | 16 => gaugeResult w s
  | _ => s

/-- The position of a WINDOW unit's station; absent for an insert that is not fitted (section 8.1). -/
def unitStation (g : Geometry) (u : Nat) : Option Nat :=
  if g.isSet then
    match u with
    | 1 => some 0
    | 8 | 9 | 10 | 11 | 12 | 13 => insertOffset g (u - 8)
    | 15 => some g.x
    | 16 => some g.g
    | _ => none
  else none

/-! ### Arrivals that only look at the piece -/

/-- The arrivals at the insert stations (R82): a piece whose version names the insert is called. -/
def insertArrivals (s : State) : State :=
  (List.range 6).foldl
    (fun s i =>
      match (insertOffset s.geometry i).bind (pieceAt s) with
      | none => s
      | some p => if p.version.getLsbD i then giveOrder (i + 2) s else s) s

/-- The arrival at the wrap former passes the wrap step (R113). -/
def wrapArrival (s : State) : State :=
  match pieceAt s s.geometry.w with
  | none => s
  | some p => passStep p.number .wrapped s

/-! ### Verify timeouts (R110) -/

/-- The entry of a piece leaves the expected-read list, and the piece becomes the previous piece
(R107, R108). -/
def dropExpected (n : BitVec 16) (s : State) : State :=
  { s with
    verify :=
      { s.verify with
        expected := s.verify.expected.filter (fun e => e ≠ n)
        previous := some n } }

/-- The entry of a piece times out (R110). -/
def timeOutEntry (n : BitVec 16) (s : State) : State :=
  recordDefect n .noRead .verify
    (updatePiece n
      (fun p => { p with verify := some { key := none, corrected := 0, grade := .timeout } })
      (dropExpected n s))

/-- The entries whose piece has reached V + 3 (R110). -/
def entriesDue (s : State) : List (BitVec 16) :=
  s.verify.expected.filter
    (fun n => (pieceNumbered s n).any (fun p => decide (s.geometry.v + 3 ≤ position s p)))

/-- The verify timeouts of a pitch mark (R110). -/
def verifyTimeouts (s : State) : State := (entriesDue s).foldl (fun s n => timeOutEntry n s) s

end Sys2Proof.Machine
end

