-- ==== Sys2Proof/Machine/Units.lean ====
section
/-! DEFINITION. The nineteen timing units: phases, pulses, windows, speed compensation, and when
settings take effect (chapter 8). -/

namespace Sys2Proof.Machine

/-! ### Speed compensation (R167, R168) -/

/-- The advance of a unit for a pitch (R167): 0 with the period absent or above 10,000,000 µs, else the
latency times C divided by the period, rounded half up, at most C - 1. At a period of 0 µs the quotient
of a latency other than 0 is a free value (log entry 7). -/
def advanceFor (c latency : Nat) (period : Option Nat) : Nat :=
  match period with
  | none => 0
  | some p =>
    if 10000000 < p then 0
    else if latency = 0 then 0
    else if p = 0 then min (c - 1) (Config.zeroPeriodAdvance latency c)
    else min (c - 1) ((2 * (latency * c) + p) / (2 * p))

/-- The effective phases of a unit from its settings and an advance (R168). -/
def TimingUnit.compensate (c advance : Nat) (t : TimingUnit) : TimingUnit :=
  let width := (t.settings.off + c - t.settings.on) % c
  let on := t.settings.on - advance
  { t with
    advance := advance
    effOn := on
    effOff := (on + width) % c
    compLimit := decide (t.settings.on < advance) }

/-! ### Pulses (R162, R163) -/

/-- An order begins: enabled, the output is asserted and the effective off phase is fixed for this
pulse, replacing the end of an earlier one; disabled, the order is dropped (R162, R163). -/
def TimingUnit.beginOrder (t : TimingUnit) : TimingUnit :=
  if t.settings.enable then { t with ordered := false, pulse := some t.effOff }
  else { t with ordered := false }

/-- A pulse whose fixed off phase is reached ends (R162). -/
def TimingUnit.endPulse (p : Nat) (t : TimingUnit) : TimingUnit :=
  if t.pulse = some p then { t with pulse := none } else t

/-- A PULSE unit at a phase reached: the earlier pulse ends there, unless the order that begins at the
same phase carries it on without a break (R162, R163). -/
def TimingUnit.pulseAt (p : Nat) (t : TimingUnit) : TimingUnit :=
  if t.ordered && t.effOn == p then (t.endPulse p).beginOrder else t.endPulse p

/-! ### Windows (R164, R166) -/

/-- An OPEN window closes and delivers its result to its station (R164). -/
def closeWindow (u : Nat) (s : State) : State :=
  match (unitAt s u).window with
  | none => s
  | some w => deliverResult u w (updateUnit u (fun t => { t with window := none }) s)

/-- A unit's window of this pitch opens: a window still OPEN closes in that act (R164, R166). -/
def openWindow (u : Nat) (s : State) : State :=
  let s1 := closeWindow u s
  updateUnit u
    (fun t =>
      { t with
        opened := true
        window := some
          { pitch := s1.line.pitch
            enabled := t.settings.enable
            close := t.effOff
            edges := 0
            piece := ((unitStation s1.geometry u).bind (pieceAt s1)).map (fun p => p.number) } }) s1

/-- The window of a unit closes at a phase reached, if it is fixed to close there (R164). -/
def windowCloseAt (u p : Nat) (s : State) : State :=
  if (unitAt s u).window.any (fun w => w.close == p) then closeWindow u s else s

/-- The window of a unit opens at a phase reached, if that is its open phase and the pitch's window has
not been opened (R164). -/
def windowOpenAt (u p : Nat) (s : State) : State :=
  if !(unitAt s u).opened && (unitAt s u).effOn == p then openWindow u s else s

/-- One unit at a phase reached within the pitch (R159). -/
def unitPhase (p : Nat) (s : State) (u : Nat) : State :=
  if isPulse u then updateUnit u (TimingUnit.pulseAt p) s
  else windowOpenAt u p (windowCloseAt u p s)

/-- Every unit acts at a phase reached (R159). DESIGN CHOICE (log entry 29): the units act in ascending
unit number, which decides the order of two defects recorded for one piece at one phase. -/
def phaseReached (p : Nat) (s : State) : State := (List.range Config.unitCount).foldl (unitPhase p) s

/-- The part of phase 0 that follows the orders and arrivals of its mark (R159, R162, R164): pulses end
and begin, and the windows whose open phase is 0 open. -/
def unitPhaseZero (s : State) (u : Nat) : State :=
  if isPulse u then updateUnit u (TimingUnit.pulseAt 0) s else windowOpenAt u 0 s

/-- The close of a window unit at phase 0 of a mark (R159, R164, R166): its fixed close phase is 0, or
its window of the new pitch opens at the mark. -/
def windowCloseAtMark (u : Nat) (s : State) : State :=
  if (unitAt s u).window.any (fun w => w.close == 0)
      || (!(unitAt s u).opened && (unitAt s u).effOn == 0) then closeWindow u s
  else s

/-- Every unit begins the pitch of a mark (R167, R168, R171): pending settings take effect, the advance
and the effective phases are computed, and the pitch's window is yet to open. -/
def beginPitch (s : State) : State :=
  { s with
    units := s.units.mapIdx (fun u t =>
      let settings := t.pending.getD t.settings
      TimingUnit.compensate s.geometry.c
        (if isPulse u then advanceFor s.geometry.c settings.latency s.line.period else 0)
        { t with settings := settings, pending := none, opened := false }) }

/-! ### Settings that take effect between marks (R169, R171) -/

/-- The effect on the current pitch of new settings of a PULSE unit that are in force (R169). -/
def TimingUnit.resettle (inPitch : Nat) (t : TimingUnit) : TimingUnit :=
  if !t.ordered then t
  else if !t.settings.enable then { t with ordered := false }
  else if inPitch < t.effOn then t
  else t.beginOrder

/-- The value on GAUGE in an act between two counts, at which U16 may sample it: a free value for each
such act (R118, R164, log entry 26). -/
def freshGauge (sampled : Bool) (s : State) : State :=
  if sampled then
    { s with
      inputs := { s.inputs with gauge := (Config.gaugeBetweenCounts s.draws).toNat }
      draws := s.draws + 1 }
  else s

/-- Settings take effect at once, with an advance of 0 (R169). -/
def writeUnit (u : Nat) (n : UnitSettings) (s : State) : State :=
  let s1 := updateUnit u
    (fun t => TimingUnit.compensate s.geometry.c 0 { t with settings := n, pending := none }) s
  if isPulse u then updateUnit u (TimingUnit.resettle s.line.inPitch) s1
  else if !(unitAt s1 u).opened && decide (n.on ≤ s.line.inPitch) then openWindow u s1
  else s1

/-- Pending settings take effect as an immediate write does, when the line state becomes STOPPED or
IDLE between two marks (R171). -/
def applyPending (s : State) : State :=
  (List.range Config.unitCount).foldl
    (fun s u =>
      match (unitAt s u).pending with
      | none => s
      | some n => writeUnit u n s) s

/-! ### Resets and geometry (R161, R173) -/

/-- A unit at the RESET command: pending settings replace the settings, and every order, pulse and
window is dropped (R171, R173). DESIGN CHOICE (log entry 31): the window of the pitch in progress counts
as not yet opened, so that the unit opens its next window at the next reaching of its open phase. -/
def TimingUnit.atReset (c : Nat) (t : TimingUnit) : TimingUnit :=
  TimingUnit.compensate c 0
    { t with
      settings := t.pending.getD t.settings
      pending := none
      ordered := false
      pulse := none
      window := none
      opened := false }

/-- A window kept through a confirm: no piece stands in the table then, so its result belongs to none
(R173). -/
def OpenWindow.withoutPiece (w : OpenWindow) : OpenWindow := { w with piece := none }

/-- A unit at the completion of CLEAR CONFIRM or JOB CONFIRM (R173). -/
def TimingUnit.atConfirm (t : TimingUnit) : TimingUnit :=
  { t with advance := 0, compLimit := false, window := t.window.map OpenWindow.withoutPiece }

/-- One unit's phases brought within a new C (R161). -/
def UnitSettings.within (c : Nat) (u : UnitSettings) : UnitSettings :=
  let on := min (c - 1) u.on
  let off := min (c - 1) u.off
  if on = off then
    if u.on < u.off then { u with on := c - 2, off := off } else { u with on := on, off := c - 2 }
  else { u with on := on, off := off }

/-- A unit at a SET GEOMETRY whose C differs (R161). None has pending settings then, for the line is
IDLE (R173). DESIGN CHOICE (log entry 31): the window of the pitch in progress counts as not yet opened,
as after the RESET command, so that a SET UNIT at in-pitch count 0 with an open phase of 0 opens one. -/
def TimingUnit.atNewC (c : Nat) (t : TimingUnit) : TimingUnit :=
  TimingUnit.compensate c 0
    { t with
      settings := t.settings.within c
      pending := t.pending.map (UnitSettings.within c)
      ordered := false
      pulse := none
      window := none
      opened := false }

end Sys2Proof.Machine
end

