-- ==== Sys2Proof/Machine/Line.lean ====
section
/-! DEFINITION. The line unit: changes of line state, faults, holds, drain completion, and the passing
of time (chapter 3, R147, R155). -/

namespace Sys2Proof.Machine

/-! ### Changes of line state (R49, R52, R60) -/

/-- The line goes to a state (R52): DRIVE-ON changes in the same act, a change of DRIVE-ON makes the
pitch period absent (R49), the pause flag is cleared by a change of state, and the hold timer starts
from 0 at an entry into HOLDING (R60). -/
def LineUnit.enter (t : LineState) (l : LineUnit) : LineUnit :=
  let driveChanges := l.state.moving != t.moving
  { l with
    state := t
    pause := if l.state = t then l.pause else false
    period := if driveChanges then none else l.period
    sinceMark := if driveChanges then none else l.sinceMark
    holdTimer := if t = .holding ∧ l.state ≠ .holding then MsTimer.zero else l.holdTimer }

/-- The line unit of the state goes to a line state. -/
def enterLine (t : LineState) (s : State) : State := { s with line := s.line.enter t }

/-- The moving state of the job (R52). -/
def movingState (s : State) : LineState := if s.line.drain then .draining else .running

/-- The line goes to STOPPED or IDLE between two marks: pending unit settings take effect in the act of
the change (R171). -/
def stopLine (t : LineState) (s : State) : State := applyPending (enterLine t s)

/-! ### Faults (R62, R63, R114) -/

/-- The bit of a fault cause in a set of causes (table of section 3.6). -/
def FaultCause.index : FaultCause → Nat
  | .jam => 0 | .filmbrk => 1 | .guard => 2 | .reverse => 3 | .overrun => 4 | .holdTimeout => 5
  | .carrierSlip => 6 | .pocketJam => 7

/-- Every piece at positions W through X receives WRAP-ABORT (R63, R114). -/
def markWrapZone (s : State) : State :=
  mapPieces
    (fun p =>
      if s.geometry.w ≤ position s p ∧ position s p ≤ s.geometry.x then
        p.withDefect .wrapAbort .wrap
      else p) s

/-- The line goes to FAULTED with a first cause (R62). -/
def enterFault (c : FaultCause) (s : State) : State :=
  let s1 := enterLine .faulted s
  { s1 with line := { s1.line with first := some c } }

/-- A fault is taken according to the line state (R62, R63). -/
def takeFault (c : FaultCause) (s : State) : State :=
  match s.line.state with
  | .idle => s
  | .stopped | .holding => enterFault c s
  | .running | .draining => enterFault c (markWrapZone s)
  | .faulted =>
    { s with line := { s.line with further := s.line.further ||| BitVec.twoPow 8 c.index } }

/-! ### Drain completion (R57, R155) -/

/-- The three conditions of R57. -/
def drainConditions (s : State) : Bool :=
  s.tracking.pieces.isEmpty && !s.queue.order.any (isRemake s) && !anyEjecting s

/-- What drain completion does to one bundle, after every ordinal has become final (R155). -/
def drainBundle (s : State) (n : Nat) : State :=
  match findBundle s n with
  | none => s
  | some b =>
    match b.state with
    | .filling | .held => if b.isComplete then closeBundle n .planned s else closeBundle n .drain s
    | .forming => freeUnclosed n .drain s
    | .ejecting | .closed => s

/-- The blocks' part of a drain completion (R43, R155): every plan is made final and retires, and the
bundles close or are freed. The pocket request, which names a FORMING bundle, becomes absent first. -/
def drainBlocks (s : State) : State :=
  let s1 := finaliseAtDrain s
  let s2 := if s1.stacker.request.isSome then clearRequest s1 else s1
  (s2.stacker.bundles.map (fun b => b.number)).foldl drainBundle s2

/-- The line leaves DRAINING for STOPPED with the drain flag cleared (R57). -/
def endDrain (s : State) : State :=
  stopLine .stopped { s with line := { s.line with drain := false } }

/-- Drain completion (R43, R57, R155). -/
def completeDrain (s : State) : State := endDrain (drainBlocks s)

/-- The drain test (R57). -/
def drainTest (s : State) : State :=
  if s.line.state = .draining ∧ drainConditions s then completeDrain s else s

/-! ### Starting, resuming and settling (R54, R57, R59) -/

/-- The line starts or resumes motion: it goes to the moving state, and entering DRAINING makes the
drain test (R52, R57). -/
def startMoving (s : State) : State := drainTest (enterLine (movingState s) s)

/-- When the last hold cause has left while the line is HOLDING, the line returns to the moving state
(R59). -/
def resumeIfClear (s : State) : State :=
  if s.line.state = .holding ∧ s.holds.causes.isEmpty then startMoving s else s

/-- The line's consequences of a command or event between two marks: a hold whose causes have cleared
ends, and a drain whose conditions hold completes (R57, R59). -/
def settle (s : State) : State := drainTest (resumeIfClear s)

/-! ### Time (R49, R60, R147) -/

/-- The time limits that can expire. -/
inductive Expiry where
  | hold
  | eject (p : PocketId)
  deriving DecidableEq, Repr

/-- The microseconds a timer shows. -/
def MsTimer.total (t : MsTimer) : Nat := t.ms * 1000 + t.micros

/-- The µs until the hold timer reaches the line hold limit; absent when it does not run or the limit
is 0 (R60). -/
def holdRemaining (s : State) : Option Nat :=
  if s.line.state = .holding ∧ s.line.holdLimit ≠ 0 then
    some (s.line.holdLimit * 1000 - s.line.holdTimer.total)
  else none

/-- The µs until a pocket's eject timer exceeds the eject limit; absent when it does not run or
POCKET-JAM has been raised for this ejection (R147). -/
def ejectRemaining (s : State) (p : PocketId) : Option Nat :=
  if pocketState s p = .ejecting ∧ (ejectTimer s p).jammed = false then
    some ((s.stacker.ejectLimit + 1) * 1000 - (ejectTimer s p).timer.total)
  else none

/-- The running timers, the pitch measurement and the time until RDY rises (R183) advance, with no limit
taken. -/
def advanceTimers (micros : Nat) (s : State) : State :=
  let step (p : PocketId) (t : EjectTimer) : EjectTimer :=
    if pocketState s p = .ejecting then { t with timer := t.timer.advance micros } else t
  { s with
    line :=
      { s.line with
        sinceMark := s.line.sinceMark.map (fun t => t + micros)
        holdTimer :=
          if s.line.state = .holding then s.line.holdTimer.advance micros else s.line.holdTimer }
    startup :=
      { s.startup with
        rdyIn := s.startup.rdyIn.bind (fun t => if t ≤ micros then none else some (t - micros)) }
    stacker :=
      { s.stacker with
        ejectA := step .a s.stacker.ejectA
        ejectB := step .b s.stacker.ejectB } }

/-- The hold timer has reached the limit: the line goes to FAULTED with HOLD-TIMEOUT (R60). -/
def takeHoldTimeout (s : State) : State := takeFault .holdTimeout s

/-- The eject timer of a pocket has exceeded the limit: POCKET-JAM is raised, once for the ejection
(R147). -/
def takePocketJam (p : PocketId) (s : State) : State :=
  takeFault .pocketJam (setEjectTimer p { ejectTimer s p with jammed := true } s)

/-- The earlier of two expiries, the first when they are equal. -/
def sooner : Option (Nat × Expiry) → Option (Nat × Expiry) → Option (Nat × Expiry)
  | none, y => y
  | x, none => x
  | some x, some y => some (if y.1 < x.1 then y else x)

/-- The next limit to expire. A tie between the hold timer and an eject timer is settled by a free
value (log entry 8). -/
def nextExpiry (s : State) : Option (Nat × Expiry) :=
  let h := (holdRemaining s).map (fun t => (t, Expiry.hold))
  let e := sooner ((ejectRemaining s .a).map (fun t => (t, Expiry.eject .a)))
    ((ejectRemaining s .b).map (fun t => (t, Expiry.eject .b)))
  match h, e with
  | some x, some y =>
    if x.1 = y.1 then (if Config.holdExpiryFirst s.draws then some x else some y)
    else sooner (some x) (some y)
  | none, y => y
  | x, none => x

/-- A limit that has been reached is taken; each draw of a free value has a number of its own. -/
def takeExpiry (e : Expiry) (s : State) : State :=
  let s1 := { s with draws := s.draws + 1 }
  match e with
  | .hold => takeHoldTimeout s1
  | .eject p => takePocketJam p s1

/-- Time passes: the limits that expire in the span are taken in the order in which they fall. At most
three can: the hold timer and the two eject timers. -/
def passTimeFrom : Nat → Nat → State → State
  | 0, micros, s => advanceTimers micros s
  | fuel + 1, micros, s =>
    match nextExpiry s with
    | none => advanceTimers micros s
    | some (t, e) =>
      if t ≤ micros then passTimeFrom fuel (micros - t) (takeExpiry e (advanceTimers t s))
      else advanceTimers micros s

/-- So many microseconds pass (R49, R60, R147). -/
def passTime (micros : Nat) (s : State) : State := passTimeFrom 3 micros s

end Sys2Proof.Machine
end

