-- ==== Sys2Proof/Machine/Stacking.lean ====
section
/-! DEFINITION. The stacker entry: the pocket look-ahead at S - 1, stacking, displacement, claims, late
pieces, hold expiry, and the completion of an ejection (sections 7.2 to 7.5). -/

namespace Sys2Proof.Machine

/-- The look-ahead of a pitch mark, for the piece that stands at S - 1 (R134). When S - 1 is D it
belongs to the diverter decision and is not made here. -/
def lookAheadAtMark (s : State) : State :=
  if s.geometry.s - 1 = s.geometry.d then s
  else
    match pieceAt s (s.geometry.s - 1) with
    | none => s
    | some p => lookAheadFor p.bundle s

/-- A bundle becomes HELD at the mark's pitch count (R139); a standing request with no FREE pocket
force-closes it (R136). -/
def becomeHeld (n : Nat) (s : State) : State :=
  forceForRequest n
    (updateBundle n
      (fun b => { b with state := .held, holdStart := some s.line.pitch, claim := false }) s)

/-- The first member of the bundle in pocket `p` has stacked: a FILLING bundle in the other pocket is
displaced (R139). -/
def displace (p : PocketId) (s : State) : State :=
  match bundleIn s (otherPocket p) with
  | none => s
  | some b =>
    if b.state = .filling then
      if b.isComplete then closeBundle b.number .planned s
      else if s.stacker.holdLimit = 0 then closeBundle b.number .holdExpired s
      else becomeHeld b.number s
    else s

/-- The end of a claim (R141): when no claiming piece of a bundle that is still HELD remains in the
table, the claim flag is cleared and the hold begins again. -/
def endClaim (n : Nat) (s : State) : State :=
  match findBundle s n with
  | none => s
  | some b =>
    if b.state = .held ∧ ¬ s.tracking.pieces.any (fun p => p.claim && p.bundle == n) then
      forceForRequest n
        (updateBundle n (fun b => { b with claim := false, holdStart := some s.line.pitch }) s)
    else s

/-- A bundle record with one more member (R137). -/
def Bundle.withMember (key mass : Nat) (b : Bundle) : Bundle :=
  { b with
    members := b.members ++ [key]
    stackedCount := b.stackedCount + 1
    stackedMass := b.stackedMass + mass
    state := if b.state = .forming then .filling else b.state }

/-- A piece is stacked into its bundle, which holds pocket `k` (R137). DESIGN CHOICE (log entry 28): the
completion test is made in this act, and the drain test of the removal later in the mark (`markEvents`).
-/
def stackPiece (p : Piece) (b : Bundle) (k : PocketId) (s : State) : State :=
  let mass := ((findRecord s p.key).map (fun r => r.nominalMass)).getD 0
  let s1 := removePiece p.number
    (updateBundle b.number (Bundle.withMember p.key mass)
      (updateRecord p.key (fun r => { r with state := .stacked }) s))
  let s2 := if b.state = .forming then displace k s1 else s1
  let s3 := completionTest b.number s2
  if p.claim then endClaim b.number s3 else s3

/-- A piece is late at the stacker (R138): its record enters EXCEPTION as LATE-MADE. At a bundle that
is FORMING this is a departure. -/
def latePiece (p : Piece) (departs : Bool) (s : State) : State :=
  let s1 := enterException p.key .lateMade none (some p.number) (removePiece p.number s)
  let s2 :=
    { s1 with stacker := { s1.stacker with lateCount := raise top16 s1.stacker.lateCount } }
  match departs, findRecord s p.key with
  | true, some r => depart r s2
  | _, _ => s2

/-- Whether a bundle state takes a piece at the stacker entry (R137). -/
def BundleState.takes : BundleState → Bool
  | .forming | .filling | .held => true
  | .ejecting | .closed => false

/-- The stacker arrival of a piece whose bundle's look-ahead, if it needed one, has been made (R137,
R138). -/
def stackOrLate (p : Piece) (s : State) : State :=
  match findBundle s p.bundle with
  | none => latePiece p false s
  | some b =>
    if b.state.takes then
      match b.pocket with
      | some k => stackPiece p b k s
      | none => latePiece p (decide (b.state = .forming)) s
    else latePiece p false s

/-- The stacker arrival of a pitch mark (R137, R138): a FORMING bundle without a pocket gets its
look-ahead in the act of the arrival. -/
def stackerArrival (s : State) : State :=
  match pieceAt s s.geometry.s with
  | none => s
  | some p => stackOrLate p (lookAheadFor p.bundle s)

/-- The expiry test of one bundle against a hold age (R140). -/
def expireBundle (least : Nat) (s : State) (n : Nat) : State :=
  match findBundle s n with
  | none => s
  | some b =>
    if b.heldUnclaimed && decide (least ≤ holdAge s b) then closeBundle n .holdExpired s
    else s

/-- Each HELD bundle is tested for expiry against a hold age (R140). -/
def expireFrom (least : Nat) (s : State) : State :=
  (s.stacker.bundles.map (fun b => b.number)).foldl (expireBundle least) s

/-- The expiry test of a pitch mark, against the bundle hold limit in force (R140, R156). -/
def holdExpiryTest (s : State) : State := expireFrom s.stacker.holdLimit s

/-- The ejection of a pocket's bundle completes (R146): the bundle is CLOSED, its members are BUNDLED
and MAILED, the pocket is FREE, and the request and the plan's retirement are examined. -/
def completeEjection (b : Bundle) (s : State) : State :=
  let s1 := updateBundle b.number (fun c => { c with state := .closed, pocket := none })
    { s with stacker := { s.stacker with closedOrder := s.stacker.closedOrder ++ [b.number] } }
  let s2 := mapRecords
    (fun r =>
      if r.key ∈ b.members then { r with state := .bundled, disposition := some .mailed } else r) s1
  retirementTest b.plan (answerRequest s2)

end Sys2Proof.Machine
end

