-- ==== Sys2Proof/Machine/Diversion.lean ====
section
/-! DEFINITION. The diverter decision and what it does to the piece, its record and its bundle
(sections 6.4 and 6.5). -/

namespace Sys2Proof.Machine

/-- The six counts the diverter keeps (R131). -/
inductive DiverterCount where
  | passed | claims | remade | spoiled | withdrawn | lateMade
  deriving DecidableEq, Repr

/-- One diverter count raised by 1 (R131). -/
def Diverter.count (c : DiverterCount) (d : Diverter) : Diverter :=
  match c with
  | .passed => { d with passed := raise top16 d.passed }
  | .claims => { d with claims := raise top16 d.claims }
  | .remade => { d with remade := raise top16 d.remade }
  | .spoiled => { d with spoiled := raise top16 d.spoiled }
  | .withdrawn => { d with withdrawn := raise top16 d.withdrawn }
  | .lateMade => { d with lateMade := raise top16 d.lateMade }

/-- A diverter count of the state raised by 1. -/
def countDiversion (c : DiverterCount) (s : State) : State :=
  { s with diverter := s.diverter.count c }

/-- Case 1: REJECT of a withdrawn record (R121): EXCEPTION, WITHDRAWN, and a departure. -/
def rejectWithdrawn (p : Piece) (r : Record) (s : State) : State :=
  depart r
    (giveOrder 17 (countDiversion .withdrawn
      (enterException p.key .withdrawn none (some p.number) (removePiece p.number s))))

/-- Case 2 below the remake limit: the record returns as a REMAKE (R122). -/
def rejectRemade (p : Piece) (first : Option DefectCause) (s : State) : State :=
  giveOrder 17 (countDiversion .remade
    (requeue p.key .remake
      (updateRecord p.key
        (fun r => { r with lastDefect := first, remakeCount := r.remakeCount + 1 })
        (removePiece p.number s))))

/-- Case 2 at the remake limit: EXCEPTION, SPOILED, and a departure (R122). -/
def rejectSpoiled (p : Piece) (r : Record) (first : Option DefectCause) (s : State) : State :=
  depart r
    (giveOrder 17 (countDiversion .spoiled
      (enterException p.key .spoiled first (some p.number)
        (updateRecord p.key (fun r => { r with lastDefect := first }) (removePiece p.number s)))))

/-- Case 4: HAND, EXCEPTION with LATE-MADE, no departure (R124). -/
def handOut (p : Piece) (s : State) : State :=
  giveOrder 18 (countDiversion .lateMade
    (enterException p.key .lateMade none (some p.number) (removePiece p.number s)))

/-- The look-ahead that belongs to a PASSING decision when S - 1 is D (R134). -/
def lookAheadAtDiverter (p : Piece) (s : State) : State :=
  if s.geometry.s - 1 = s.geometry.d then lookAheadFor p.bundle s else s

/-- Case 3: PASSING with a claim on the HELD bundle (R123). -/
def passClaiming (p : Piece) (s : State) : State :=
  lookAheadAtDiverter p
    (countDiversion .claims (countDiversion .passed
      (updateBundle p.bundle (fun b => { b with claim := true })
        (passStep p.number .passing (updatePiece p.number (fun q => { q with claim := true }) s)))))

/-- Case 5: PASSING (R125). -/
def passOn (p : Piece) (s : State) : State :=
  lookAheadAtDiverter p (countDiversion .passed (passStep p.number .passing s))

/-- The diverter decision of a piece with its record: the first case of R120 that applies. -/
def divert (p : Piece) (r : Record) (s : State) : State :=
  if r.withdrawPending then rejectWithdrawn p r s
  else if !p.defects.isEmpty then
    let first := p.defects.head?.map (fun d => d.cause)
    if r.remakeCount < s.diverter.remakeLimit then rejectRemade p first s
    else rejectSpoiled p r first s
  else
    match (findBundle s p.bundle).map (fun b => b.state) with
    | some BundleState.held => passClaiming p s
    | some BundleState.forming => passOn p s
    | some BundleState.filling => passOn p s
    | some BundleState.ejecting => handOut p s
    | some BundleState.closed => handOut p s
    | none => handOut p s

/-- The diverter arrival of a pitch mark (R120). -/
def diverterArrival (s : State) : State :=
  match pieceAt s s.geometry.d with
  | none => s
  | some p =>
    match findRecord s p.key with
    | none => s
    | some r => divert p r s

end Sys2Proof.Machine
end

