-- ==== Sys2Proof/Machine/Births.lean ====
section
/-! DEFINITION. The birth decision: the candidate, the gap causes, and the birth of a piece
(sections 1.6, 2.4, 4.2). -/

namespace Sys2Proof.Machine

/-! ### The candidate (R15) -/

/-- A non-REMAKE record eligible when the burst limit applies: in DRAINING a RETURN, in RUNNING a
RETURN or a NORMAL record (R15). -/
def eligible (m : LineState) (r : Record) : Bool :=
  match r.kind with
  | .remake => false
  | .return => true
  | .normal => m = .running

/-- The candidate of a birth decision at a mark of state `m` (R15). -/
def candidate (m : LineState) (s : State) : Option Record :=
  let records := queuedRecords s
  match records.head? with
  | none => none
  | some front =>
    if front.kind = .remake ∧ s.queue.burst ≤ s.queue.consecutive ∧ records.any (eligible m) then
      records.find? (fun r => r.kind ≠ .remake)
    else some front

/-! ### Gaps (R71) -/

/-- The decision ends in a gap: the gap count rises and the last gap cause is written (R71). -/
def gap (c : GapCause) (s : State) : State :=
  { s with
    tracking := { s.tracking with gapCount := raise top32 s.tracking.gapCount, lastGap := some c } }

/-- The bundle table holds 24 allocated records (R76). -/
def bundleTableFull (s : State) : Bool := Config.bundleSlots ≤ s.stacker.bundles.length

/-! ### The birth of a piece (R72, R73) -/

/-- The consecutive-remake birth count after a birth (R16). -/
def Queue.countBirth (k : Kind) (q : Queue) : Queue :=
  match k with
  | .remake => { q with consecutive := raise 8 q.consecutive }
  | .normal | .return => { q with consecutive := 0 }

/-- The piece record of a birth (R72), with the lead the carrier unit computes for it (R93). -/
def newPiece (r : Record) (bundle lead : Nat) (s : State) : Piece :=
  { number := s.tracking.counter, birthPitch := s.line.pitch, key := r.key, version := r.version,
    delivered := 0, remake := decide (1 ≤ r.remakeCount), stage := .called, defects := [],
    overflow := 0, overflowed := [], job := .none, lead := lead, waiting := false, verify := none,
    thickness := none, bundle := bundle, claim := false }

/-- A piece is born for a candidate whose ordinal is ALLOCATED (R17, R68, R72, R77, R93). -/
def bear (r : Record) (s : State) : State :=
  let bundle := ((findRecord s r.key).bind (fun q => q.bundle)).getD 0
  let (lead, accumulator) := leadStep s.carrier.lq s.carrier.accumulator
  let s1 := updateRecord r.key (fun q => { q with state := .inFlight }) (dequeue r.key s)
  giveOrder 0
    { s1 with
      queue := s1.queue.countBirth r.kind
      carrier := { s1.carrier with accumulator := accumulator }
      tracking :=
        { s1.tracking with
          pieces := s1.tracking.pieces ++ [newPiece r bundle lead s]
          counter := s1.tracking.counter + 1 } }

/-- Case 2: the waiting ordinal gets its bundle, and the piece is born (R34). -/
def bearWaiting (ref : PlanRef) (r : Record) (s : State) : State :=
  if bundleTableFull s then gap .bundleFull s else bear r (allocateBundle ref r.route s)

/-- Case 3: a plan is made for the route, ordinal 0 gets its bundle, the current ordinals of the OPEN
plans of other routes become final, and the piece is born (R34, R35, R38). -/
def bearNewRoute (r : Record) (s : State) : State :=
  match freePlan s with
  | none => gap .planFull s
  | some i =>
    if bundleTableFull s then gap .bundleFull s
    else
      bear r (finaliseOthers r.route
        (allocateBundle { plan := i, ordinal := 0 } r.route (makePlan i r s)))

/-- The candidate takes a plan reference and, where its ordinal is ALLOCATED already, its bundle number
(R37). -/
def takeRef (ref : PlanRef) (r : Record) (s : State) : State :=
  let bundle := match ordinalAt s ref with
    | none => none
    | some o =>
      match o.status with
      | .allocated n => some n
      | .waiting | .skipped | .emptied | .released => none
  updateRecord r.key (fun q => { q with planRef := some ref, bundle := bundle }) s

/-- The birth of a record carrying the end-of-route flag makes the ordinal it joined or opened final
(R38). -/
def finaliseIfEnd (ref : PlanRef) (r : Record) (s : State) : State :=
  if r.endOfRoute ∧ (ordinalAt s ref).any (fun o => !o.final) then finaliseOrdinal ref s else s

/-- Case 4: the plan grows by the candidate, and the piece is born (R34, R37, R38). -/
def bearGrowing (i : Nat) (r : Record) (s : State) : State :=
  match planAt s i with
  | none => s
  | some p =>
    if growthBlocked s p r then gap .planClosed (if p.closedToGrowth then s else closeToGrowth i s)
    else
      match growthJoins s p r with
      | some c =>
        let ref : PlanRef := { plan := i, ordinal := c }
        bear r (finaliseOthers r.route
          (finaliseIfEnd ref r (takeRef ref r (joinOrdinal ref r s))))
      | none =>
        if bundleTableFull s then gap .bundleFull s
        else
          let ref : PlanRef := { plan := i, ordinal := p.sizes.length }
          bear r (finaliseOthers r.route
            (finaliseIfEnd ref r
              (allocateBundle ref r.route (takeRef ref r (openOrdinal i p r s)))))

/-- The birth decision of a pitch mark of state `m` (R70 to R72). -/
def birthDecision (m : LineState) (s : State) : State :=
  if m.moving then
    match candidate m s with
    | none => gap .noCandidate s
    | some r =>
      if m = .draining ∧ r.kind = .normal then gap .drainOnly s
      else if Config.exceptionBirthLimit ≤ s.stacker.exceptions.length then gap .exceptionLimit s
      else
        match birthCase s r with
        | .planned => bear r s
        | .waiting ref => bearWaiting ref r s
        | .newRoute => bearNewRoute r s
        | .growing i => bearGrowing i r s
  else s

end Sys2Proof.Machine
end

