-- ==== Sys2Proof/Machine/Mark.lean ====
section
/-! DEFINITION. The pitch mark: the counts and the period, the events of the mark in the order the
outside gives, phase 0 of the timing units, and the change of line state that follows (R47 to R51,
R55, R58, R64). -/

namespace Sys2Proof.Machine

/-- The in-pitch count becomes 0 and the pitch count rises by 1, which moves every piece one position
(R47); the pitch period is measured between two marks reached with DRIVE-ON on (R49). The bundle hold
limit in force at the mark is that of its expiry test (R156). -/
def countPitch (s : State) : State :=
  let l := s.line
  { s with
    holds := { s.holds with raised := HoldSet.none }
    stacker := { s.stacker with markLimit := s.stacker.holdLimit }
    line :=
      { l with
        inPitch := 0
        pitch := l.pitch + 1
        period :=
          if l.state.moving then
            match l.sinceMark with
            | some t => some (min top32 t)
            | none => l.period
          else l.period
        sinceMark := if l.state.moving then some 0 else none } }

/-- The default order of the events of a mark (log entry 2). -/
def defaultOrder : List MarkEvent :=
  [.windowClose 1, .windowClose 8, .windowClose 9, .windowClose 10, .windowClose 11, .windowClose 12,
   .windowClose 13, .windowClose 15, .windowClose 16, .stackerArrival, .diverterArrival, .lookAhead,
   .holdExpiry, .wrapArrival, .verifyTimeout, .verifyArrival, .carrierArrival, .printerJobs,
   .insertArrivals, .birthDecision]

/-- The order in which a mark's events are taken: the order given, then the events left out, each
event once. -/
def markOrder (order : List MarkEvent) : List MarkEvent := (order ++ defaultOrder).eraseDups

/-- One event of a pitch mark whose state is `m`. -/
def markEvent (m : LineState) (s : State) (e : MarkEvent) : State :=
  match e with
  | .windowClose u => if isPulse u then s else windowCloseAtMark u s
  | .stackerArrival => stackerArrival s
  | .diverterArrival => diverterArrival s
  | .lookAhead => lookAheadAtMark s
  | .holdExpiry => holdExpiryTest s
  | .wrapArrival => wrapArrival s
  | .verifyTimeout => verifyTimeouts s
  | .verifyArrival => verifyArrival s
  | .carrierArrival => carrierArrival s
  | .printerJobs => printerJobsAtMark s
  | .insertArrivals => insertArrivals s
  | .birthDecision => birthDecision m s
  | .drainTest => drainTest s

/-- The hold causes raised at the mark that still stand after its events (R48, R58). -/
def heldAtMark (s : State) : Bool :=
  (s.holds.raised.printerWait && s.holds.causes.printerWait)
    || (s.holds.raised.pocketWait && s.holds.causes.pocketWait)

/-- The change of line state that follows the decisions of a mark of state `m` (R48): a drain that has
completed stands; else a pending PAUSE takes effect (R55); else a hold cause raised at the mark holds
the line (R58); a mark reached with DRIVE-ON off raises OVERRUN (R64). -/
def changeAtMark (m : LineState) (s : State) : State :=
  if m.moving then
    if s.line.state = m then
      if s.line.pause then enterLine .stopped s
      else if heldAtMark s then enterLine .holding s
      else s
    else s
  else takeFault .overrun s

/-- The hold causes raised at the mark are forgotten. -/
def endMark (s : State) : State := { s with holds := { s.holds with raised := HoldSet.none } }

/-- The state in which the events of a mark are taken: the counts and the period of the mark made, and
the timing units at its beginning (R47, R49, R171). -/
def markBegun (s : State) : State := beginPitch (countPitch s)

/-- The events of a mark of state `m`. DESIGN CHOICE (log entry 28): the drain test that R57 makes at
each of them is made at the end of them, after a completion test of the same act, or earlier where the
order says. -/
def markEvents (m : LineState) (order : List MarkEvent) (s : State) : State :=
  drainTest ((markOrder order).foldl (markEvent m) s)

/-- Phase 0 of every unit, after the orders and arrivals of its mark (R159). -/
def phaseZero (s : State) : State := (List.range Config.unitCount).foldl unitPhaseZero s

/-- A pitch mark (R47, R48): its counts, its events (`markEvents`, with the place of the drain test, log
entry 28), phase 0, and the change of line state. -/
def pitchMark (order : List MarkEvent) (s : State) : State :=
  let m := s.line.state
  endMark (changeAtMark m (phaseZero (markEvents m order (markBegun s))))

/-- A forward encoder count (R45): it repays backlash, or raises the in-pitch count to a phase
(R159) or to a pitch mark (R47). DESIGN CHOICE (log entry 30): a drain that a MAG-MISS completes at a
phase, and with it the pending settings (R171), comes after every unit has acted at that phase. -/
def forwardCount (order : List MarkEvent) (s : State) : State :=
  if 0 < s.line.backlash then
    { s with line := { s.line with backlash := s.line.backlash - 1 } }
  else if s.geometry.c ≤ s.line.inPitch + 1 then pitchMark order s
  else
    settle (phaseReached (s.line.inPitch + 1)
      { s with line := { s.line with inPitch := s.line.inPitch + 1 } })

/-- A reverse encoder count (R46). -/
def reverseCount (s : State) : State :=
  let s1 := { s with line := { s.line with backlash := raise top16 s.line.backlash } }
  if s.line.backlash = s.geometry.c then takeFault .reverse s1 else s1

end Sys2Proof.Machine
end

