-- ==== Sys2Proof/Machine/Encoding.lean ====
section
/-! DEFINITION. How values are written as bytes: numbers, sets, texts, readouts, snapshot items, the
payloads of responses, and link messages (R196, sections 10.6 and 10.7). Where the spec leaves a layout
open, log entries 11 to 14 say what is chosen. -/

namespace Sys2Proof.Machine

/-! ### Numbers, flags and optional values (R196) -/

/-- A number in `n` bytes, least significant byte first. -/
def le : Nat → Nat → List Byte
  | 0, _ => []
  | n + 1, v => BitVec.ofNat 8 v :: le n (v / 256)

/-- The number that some bytes spell, least significant byte first. -/
def ofLe : List Byte → Nat
  | [] => 0
  | b :: bs => b.toNat + 256 * ofLe bs

/-- A yes/no flag in one byte. -/
def flag (b : Bool) : List Byte := le 1 b.toNat

/-- A byte of flags, the first at bit 0. -/
def flagBits : List Bool → Nat
  | [] => 0
  | b :: bs => b.toNat + 2 * flagBits bs

/-- An optional number in `n` bytes: an absent one is sent as zeros. -/
def leOpt (n : Nat) (v : Option Nat) : List Byte := le n (v.getD 0)

/-! ### Enumerations (R196) -/

/-- Result codes (section 10.6). -/
def ResultCode.value : ResultCode → Nat
  | .ok => 0 | .okClamped => 1 | .partialResult => 2 | .busy => 3 | .state => 4 | .range => 5
  | .full => 6 | .notFound => 7 | .duplicate => 8 | .order => 9 | .limit => 10 | .tooLate => 11
  | .sequence => 12 | .frame => 13 | .unknown => 14

def RecordState.value : RecordState → Nat
  | .free => 0 | .queued => 1 | .inFlight => 2 | .stacked => 3 | .bundled => 4 | .exception => 5

def Kind.value : Kind → Nat
  | .normal => 0 | .remake => 1 | .return => 2

/-- Numbered in the order of R3, which defines the disposition; DESIGN CHOICE (log entry 13): the
disposition of an exception entry is too, although R152 lists its four values in another order. -/
def Disposition.value : Disposition → Nat
  | .mailed => 0 | .spoiled => 1 | .lateMade => 2 | .lateUnmade => 3 | .withdrawn => 4

/-- Defect causes are numbered from 1; 0 means none. -/
def DefectCause.value : DefectCause → Nat
  | .magDouble => 1 | .insertMiss => 2 | .insertDouble => 3 | .noPrint => 4 | .noRead => 5
  | .keyMismatch => 6 | .wrapAbort => 7 | .cutFault => 8 | .thickLow => 9 | .thickHigh => 10

def DefectStation.value : DefectStation → Nat
  | .magazine => 0 | .insert i => i.val + 1 | .carrier => 7 | .verify => 8 | .wrap => 9 | .cut => 10
  | .gauge => 11

def JobState.value : JobState → Nat
  | .none => 0 | .due => 1 | .sent => 2 | .accepted => 3 | .printed => 4 | .refused => 5
  | .cancelled => 6

def Grade.value : Grade → Nat
  | .good => 0 | .marginal => 1 | .noRead => 2 | .slip => 3 | .mismatch => 4 | .timeout => 5

def GapCause.value : GapCause → Nat
  | .noCandidate => 0 | .drainOnly => 1 | .exceptionLimit => 2 | .planFull => 3 | .planClosed => 4
  | .bundleFull => 5

def LineState.value : LineState → Nat
  | .idle => 0 | .stopped => 1 | .running => 2 | .draining => 3 | .holding => 4 | .faulted => 5

def BundleState.value : BundleState → Nat
  | .forming => 0 | .filling => 1 | .held => 2 | .ejecting => 3 | .closed => 4

def CloseReason.value : CloseReason → Nat
  | .planned => 0 | .holdExpired => 1 | .forced => 2 | .drain => 3 | .emptied => 4

def PocketState.value : PocketState → Nat
  | .free => 0 | .filling => 1 | .held => 2 | .ejecting => 3

def pocketValue : PocketId → Nat
  | .a => 0 | .b => 1

/-- The hold cause set as a bit map (R58). -/
def HoldSet.value (h : HoldSet) : Nat := flagBits [h.printerWait, h.pocketWait]

/-! ### Text blocks (R196 Text) -/

/-- Symbols packed 7 bits each, least significant first, as one number. -/
def packSymbols : List Symbol → Nat
  | [] => 0
  | c :: cs => c.toNat + 128 * packSymbols cs

/-- The first `n` symbols of a packed number; bits after the last symbol are ignored. -/
def unpackSymbols : Nat → Nat → List Symbol
  | 0, _ => []
  | n + 1, v => BitVec.ofNat 7 v :: unpackSymbols n (v / 128)

/-- The count of bytes that hold `n` packed symbols: 7n/8 rounded up. -/
def packedBytes (n : Nat) : Nat := ceilDiv (7 * n) 8

/-- A text block: the symbol count, and the packed symbols. -/
def textBlock (t : List Symbol) : List Byte := le 1 t.length ++ le (packedBytes t.length) (packSymbols t)

/-! ### Readouts (section 10.6) -/

/-- The piece record readout, 39 bytes. -/
def pieceReadout (r : PieceReadout) : List Byte :=
  let p := r.piece
  let v := p.verify
  let entries := p.defects.flatMap (fun d => le 1 d.cause.value ++ le 1 d.station.value)
  le 1 (flagBits [v.isSome, p.thickness.isSome])
    ++ le 1 (flagBits [p.remake, p.claim, v.any (fun x => x.key.isNone)])
    ++ le 2 p.number.toNat ++ le 4 p.birthPitch.toNat ++ le 4 p.key ++ le 1 r.position
    ++ le 1 p.version.toNat ++ le 1 p.delivered.toNat ++ le 1 p.stage.rank ++ le 1 p.job.value
    ++ le 1 p.defects.length ++ (entries ++ List.replicate 8 0#8).take 8 ++ le 1 p.overflow
    ++ leOpt 4 (v.bind (fun x => x.key)) ++ leOpt 1 (v.map (fun x => x.corrected))
    ++ leOpt 1 (v.map (fun x => x.grade.value)) ++ leOpt 2 p.thickness ++ le 2 p.bundle
    ++ le 2 r.nominalThickness

/-- The bundle record readout, 28 bytes. -/
def bundleReadout (b : Bundle) : List Byte :=
  le 1 (flagBits [b.pocket.isSome, b.reason.isSome, b.holdStart.isSome])
    ++ le 1 (flagBits [b.final, b.overmass, b.short, b.claim])
    ++ le 2 b.number ++ le 4 b.route ++ le 1 b.plan ++ le 2 b.ordinal ++ le 1 b.state.value
    ++ leOpt 1 (b.pocket.map pocketValue) ++ le 2 b.plannedCount ++ le 2 b.plannedMass
    ++ le 2 b.stackedCount ++ le 4 b.stackedMass ++ leOpt 1 (b.reason.map CloseReason.value)
    ++ leOpt 4 (b.holdStart.map BitVec.toNat)

/-- An exception entry, 10 bytes. -/
def exceptionEntry (e : ExceptionEntry) : List Byte :=
  le 4 e.key ++ le 1 (flagBits [e.defect.isSome, e.piece.isSome]) ++ le 1 e.disposition.value
    ++ leOpt 1 (e.defect.map DefectCause.value) ++ leOpt 2 (e.piece.map BitVec.toNat)
    ++ le 1 e.remakeCount

/-! ### Snapshot items (R193, section 10.6) -/

/-- An item: kind, index, the length of what follows, and the content. -/
def snapshotItem (kind index : Nat) (content : List Byte) : List Byte :=
  le 1 kind ++ le 1 index ++ le 1 content.length ++ content

/-- The line item, 19 bytes after the head. -/
def lineItemBytes (i : LineItem) : List Byte :=
  let l := i.line
  snapshotItem 1 0
    (le 4 l.pitch.toNat ++ le 2 l.inPitch ++ le 2 l.backlash ++ leOpt 4 l.period
      ++ le 1 l.state.value ++ le 1 (flagBits [l.drain, l.pause, l.period.isSome, l.first.isSome])
      ++ le 1 i.causes.value ++ le 2 l.holdTimer.ms ++ leOpt 1 (l.first.map FaultCause.index)
      ++ le 1 l.further.toNat)

/-- A position item, 3 or 42 bytes after the head. -/
def positionItemBytes (i : PositionItem) : List Byte :=
  let piece := match i.occupant with
    | none => []
    | some r => pieceReadout r
  snapshotItem 2 i.position
    (flag i.occupant.isSome ++ le 1 i.expectedCount ++ flag i.entryHeld ++ piece)

/-- The order state of a PULSE unit, or the window state of a WINDOW unit, as its number (R158). -/
def unitActivity (u : Nat) (t : TimingUnit) : Nat :=
  if isPulse u then (if t.ordered then 1 else if t.pulse.isSome then 2 else 0)
  else t.window.isSome.toNat

/-- A unit item, 28 bytes after the head (R172). DESIGN CHOICE (log entry 13): R172 lists an output level
for PULSE units alone; in the item of a WINDOW unit bit 4 is the strobe level of U16, and 0 for the
others. -/
def unitItemBytes (i : UnitItem) : List Byte :=
  let t := i.content
  let n := t.pending
  let fixed := if isPulse i.unit then t.pulse else t.window.map (fun w => w.close)
  let output := t.pulse.isSome || (i.unit == 16 && t.window.any (fun w => w.enabled))
  snapshotItem 3 i.unit
    (flag (!isPulse i.unit)
      ++ le 1 (flagBits [t.settings.enable, n.isSome, n.any (fun x => x.enable), t.compLimit,
        output, t.window.any (fun w => w.enabled)])
      ++ le 2 t.settings.on ++ le 2 t.settings.off ++ le 2 t.settings.latency
      ++ leOpt 2 (n.map (fun x => x.on)) ++ leOpt 2 (n.map (fun x => x.off))
      ++ leOpt 2 (n.map (fun x => x.latency))
      ++ le 2 t.advance ++ le 2 t.effOn ++ le 2 t.effOff ++ le 1 (unitActivity i.unit t)
      ++ leOpt 2 fixed ++ leOpt 4 (t.window.map (fun w => w.pitch.toNat))
      ++ leOpt 1 (t.window.map (fun w => w.edges)))

/-! ### Payloads of the setting commands (section 10.7) -/

/-- The station map and the fitted inserts in the layout of the SET GEOMETRY payload, 16 bytes. -/
def geometryBytes (g : Geometry) : List Byte :=
  le 2 g.c ++ le 1 g.fitted.toNat ++ g.offsets.flatMap (le 1) ++ le 1 g.cOff ++ le 1 g.v ++ le 1 g.w
    ++ le 1 g.x ++ le 1 g.g ++ le 1 g.d ++ le 1 g.s

def productBytes (p : ProductFields) : List Byte :=
  le 2 p.baseMass ++ le 2 p.baseThickness ++ le 1 p.carrierMass ++ le 1 p.carrierThickness
    ++ le 2 p.cutLength ++ le 2 p.webWidth ++ le 1 p.grammage

def insertBytes (i : InsertFields) : List Byte :=
  le 1 i.number ++ le 2 i.mass ++ le 1 i.thickness ++ flag i.required

def limitBytes (nmax mmax : Nat) : List Byte := le 2 nmax ++ le 2 mmax

def remakeBytes (r : RemakeFields) : List Byte :=
  le 1 r.burst ++ le 1 r.remakeLimit ++ le 1 r.tolerance

def printerBytes (p : PrinterFields) : List Byte :=
  le 1 p.lmin ++ le 1 p.lmax ++ le 1 p.upStep ++ le 1 p.downStep ++ le 1 p.waitThreshold
    ++ le 1 p.marginThreshold

def unitBytes (u : UnitFields) : List Byte :=
  le 1 u.unit ++ flag u.enable ++ le 2 u.on ++ le 2 u.off ++ le 2 u.latency

def holdBytes (h : HoldFields) : List Byte := le 2 h.lineLimit ++ le 2 h.bundleLimit ++ le 2 h.ejectLimit

def jobBytes (j : JobFields) : List Byte := le 2 j.lowWater ++ le 1 j.start

/-! ### The STATUS payload (R189) -/

/-- A set of units as a bit map of three bytes (R172, R189). -/
def unitSetBytes (s : State) (f : TimingUnit → Bool) : List Byte :=
  le 3 (flagBits ((List.range Config.unitCount).map (fun u => f (unitAt s u))))

/-- The setup latch: its content, and the values of a job setup (R189). -/
def latchBytes : SetupLatch → List Byte
  | .empty => le 1 0 ++ le 2 0 ++ le 1 0
  | .job low start => le 1 1 ++ le 2 low ++ le 1 start
  | .clear => le 1 2 ++ le 2 0 ++ le 1 0

/-- The operation in progress (R189). -/
def operationByte : Option Operation → List Byte
  | none => le 1 0
  | some (.jobConfirm _ _) => le 1 1
  | some .clearConfirm => le 1 2

/-- The state and the bundle of a pocket (R133, R189). -/
def pocketBytes (s : State) (p : PocketId) : List Byte :=
  le 1 (pocketState s p).value ++ leOpt 2 ((bundleIn s p).map (fun b => b.number))

/-- The presence byte of STATUS (R189). -/
def statusPresence (s : State) : List Byte :=
  le 1 (flagBits [s.line.period.isSome, s.line.first.isSome, s.tracking.lastGap.isSome,
    (bundleIn s .a).isSome, (bundleIn s .b).isSome, s.carrier.lastRefusal.isSome,
    s.stacker.lastFreed.isSome])

/-- Group "part". -/
def statusPart (s : State) : List Byte :=
  le 1 s.line.state.value ++ flag s.line.drain ++ flag s.line.pause ++ operationByte s.host.operation
    ++ latchBytes s.host.latch ++ flag s.host.cleared ++ flag s.geometry.isSet

/-- Group "line". -/
def statusLine (s : State) : List Byte :=
  le 2 s.line.inPitch ++ le 2 s.line.backlash ++ le 4 s.line.pitch.toNat ++ leOpt 4 s.line.period
    ++ le 1 s.holds.causes.value ++ le 2 s.line.holdTimer.ms
    ++ leOpt 1 (s.line.first.map FaultCause.index) ++ le 1 s.line.further.toNat
    ++ flag s.inputs.jam ++ flag s.inputs.filmbrk ++ flag s.inputs.guard

/-- Groups "attention", "records" and "tracking". -/
def statusRecords (s : State) : List Byte :=
  le 1 (standing s).toNat ++ le 1 s.host.attention.toNat
    ++ le 2 (freeCount s) ++ le 2 (normalCount s) ++ le 2 s.queue.lowWater
    ++ le 1 s.tracking.pieces.length ++ le 2 s.tracking.counter.toNat ++ le 4 s.tracking.gapCount
    ++ leOpt 1 (s.tracking.lastGap.map GapCause.value)

/-- Group "bundles". DESIGN CHOICE (log entry 13): R189 names the state and bundle of pockets A and B in
one value; the model sends A's state and bundle, then B's state and bundle. -/
def statusBundles (s : State) : List Byte :=
  le 1 s.stacker.bundles.length ++ le 2 s.stacker.counter ++ pocketBytes s .a ++ pocketBytes s .b
    ++ flag (ejectOutput s .a) ++ flag (ejectOutput s .b)
    ++ le 2 s.stacker.ejectA.timer.ms ++ le 2 s.stacker.ejectB.timer.ms
    ++ le 1 s.stacker.closedOrder.length ++ le 1 s.stacker.exceptions.length
    ++ le 2 s.stacker.lateCount
    ++ leOpt 2 (s.stacker.lastFreed.map (fun f => f.bundle))
    ++ leOpt 4 (s.stacker.lastFreed.map (fun f => f.route))
    ++ leOpt 1 (s.stacker.lastFreed.map (fun f => f.reason.value)) ++ le 2 s.stacker.freedCount

/-- Groups "carrier" and "verify": READY is 0 and NOT-READY 1, in the order of R91 (log entry 12). -/
def statusCarrier (s : State) : List Byte :=
  flag (!s.carrier.ready) ++ le 1 s.carrier.jobs.length ++ le 1 s.carrier.lq
    ++ le 1 s.carrier.accumulator ++ le 1 s.carrier.start ++ le 1 s.carrier.windowCount
    ++ le 1 s.carrier.waits
    ++ leOpt 2 (s.carrier.lastRefusal.map (fun r => r.piece.toNat))
    ++ leOpt 1 (s.carrier.lastRefusal.map (fun r => r.reason)) ++ le 2 s.carrier.linkErrors
    ++ le 1 s.verify.expected.length ++ le 1 s.verify.reads ++ le 1 s.verify.marginals
    ++ le 2 s.verify.linkErrors ++ le 2 s.verify.strays

/-- The required flags as a set of the inserts (R81, R189). -/
def requiredSet (p : Planner) : Nat :=
  flagBits ((List.range 6).map (fun i => (insertAt p i).required))

/-- Groups "diverter", "settings" and "units". -/
def statusSettings (s : State) : List Byte :=
  le 2 s.diverter.passed ++ le 2 s.diverter.claims ++ le 2 s.diverter.remade ++ le 2 s.diverter.spoiled
    ++ le 2 s.diverter.withdrawn ++ le 2 s.diverter.lateMade
    ++ geometryBytes s.geometry ++ le 1 (requiredSet s.planner)
    ++ limitBytes s.planner.nmax s.planner.mmax
    ++ le 1 s.queue.burst ++ le 1 s.diverter.remakeLimit ++ le 1 s.diverter.tolerance
    ++ le 2 s.line.holdLimit ++ le 1 s.stacker.holdLimit ++ le 2 s.stacker.ejectLimit
    ++ unitSetBytes s (fun t => t.pending.isSome) ++ unitSetBytes s (fun t => t.compLimit)

/-- The payload of the STATUS response (R189). -/
def statusPayload (s : State) : List Byte :=
  statusPresence s ++ statusPart s ++ statusLine s ++ statusRecords s ++ statusBundles s
    ++ statusCarrier s ++ statusSettings s

/-! ### Other payloads -/

/-- LOAD answers with the accepted count, the refusal cause and the free count (R13, section 10.7). -/
def loadPayload (accepted : Nat) (cause : Option ResultCode) (s : State) : List Byte :=
  le 1 accepted ++ leOpt 1 (cause.map ResultCode.value) ++ le 2 (freeCount s)

/-- The 1-based queue position of a record while QUEUED (R8, R18). -/
def queuePosition (s : State) (r : Record) : Option Nat :=
  if r.state = .queued then some (s.queue.order.idxOf r.key + 1) else none

/-- The piece number that FIND reports (R18): that of the record's piece while IN-FLIGHT, that of its
exception entry while in EXCEPTION. -/
def foundPiece (s : State) (r : Record) : Option (BitVec 16) :=
  match r.state with
  | .inFlight => (pieceOf s r.key).map (fun p => p.number)
  | .exception => (s.stacker.exceptions.find? (fun e => e.key == r.key)).bind (fun e => e.piece)
  | .free | .queued | .stacked | .bundled => none

/-- FIND answers with the values of R18 in their order, with a presence byte first. -/
def findPayload (s : State) (r : Record) : List Byte :=
  let kind := if r.state = .queued then some r.kind.value else none
  let place := queuePosition s r
  let piece := (foundPiece s r).map BitVec.toNat
  let defect := r.lastDefect.map DefectCause.value
  let outcome := r.disposition.map Disposition.value
  le 1 (flagBits [kind.isSome, place.isSome, piece.isSome, r.bundle.isSome, defect.isSome,
      outcome.isSome])
    ++ le 1 r.state.value ++ leOpt 1 kind ++ leOpt 2 place ++ leOpt 2 piece ++ leOpt 2 r.bundle
    ++ le 1 r.remakeCount ++ le 1 r.amendCount ++ flag r.withdrawPending ++ leOpt 1 defect
    ++ leOpt 1 outcome

/-- READ BUNDLE answers with the readout, the length of the member list, the first member index, the
count returned, and up to 48 subscriber keys (R150, section 10.6). -/
def bundlePayload (b : Bundle) (first : Nat) : List Byte :=
  let page := (b.members.drop first).take Config.membersPerRead
  bundleReadout b ++ le 2 b.members.length ++ le 1 first ++ le 1 page.length ++ page.flatMap (le 4)

/-- READ EXCEPTIONS answers with the count of entries, the count returned and the oldest 16 (R153). -/
def exceptionsPayload (l : List ExceptionEntry) : List Byte :=
  let page := l.take Config.entriesPerRead
  le 1 l.length ++ le 1 page.length ++ page.flatMap exceptionEntry

/-! ### Messages to the printer (section 10.6, Serial link messages) -/

/-- The check byte: type, length, field and check bytes sum to 0 modulo 256. -/
def checkByte (body : List Byte) : Byte := 0#8 - body.foldl (fun a b => a + b) 0#8

/-- A link message: start byte, type, length, fields, check byte. -/
def linkMessage (type : Nat) (fields : List Byte) : List Byte :=
  let body := le 1 type ++ le 1 fields.length ++ fields
  0xC3#8 :: body ++ [checkByte body]

/-- The bytes of a message to the printer. -/
def PrinterMessage.bytes : PrinterMessage → List Byte
  | .job n text => linkMessage 1 (le 2 n.toNat ++ textBlock (joinLines text))
  | .cancel n => linkMessage 2 (le 2 n.toNat)
  | .cancelAll => linkMessage 3 []

end Sys2Proof.Machine
end

