-- ==== Sys2Proof/WellFormed.lean ====
section
/-! DEFINITION. Which commands the three links and the line inputs can carry at all: every operand
within the width its layout gives it (sections 10.6 and 10.7). A value inside its width and outside
its rule's range is well formed: the command's own rule refuses or converts it. -/

namespace Sys2Proof

/-- Each field of a payload within its width; a malformed payload carries no field. -/
def Payload.all {α : Type} (f : α → Bool) : Payload α → Bool
  | .fields a => f a
  | .malformed => true

/-- A value of one byte. -/
def fits1 (n : Nat) : Bool := n < 256
/-- A value of two bytes. -/
def fits2 (n : Nat) : Bool := n < 65536
/-- A value of four bytes. -/
def fits4 (n : Nat) : Bool := n < 4294967296

def GeometryFields.wf (g : GeometryFields) : Bool :=
  fits2 g.c && g.offsets.length == 6 && g.offsets.all fits1 && fits1 g.cOff && fits1 g.v
    && fits1 g.w && fits1 g.x && fits1 g.g && fits1 g.d && fits1 g.s

def ProductFields.wf (p : ProductFields) : Bool :=
  fits2 p.baseMass && fits2 p.baseThickness && fits1 p.carrierMass && fits1 p.carrierThickness
    && fits2 p.cutLength && fits2 p.webWidth && fits1 p.grammage

def InsertFields.wf (i : InsertFields) : Bool :=
  fits1 i.number && fits2 i.mass && fits1 i.thickness

def BundleLimitFields.wf (l : BundleLimitFields) : Bool := fits2 l.nmax && fits2 l.mmax

def RemakeFields.wf (r : RemakeFields) : Bool :=
  fits1 r.burst && fits1 r.remakeLimit && fits1 r.tolerance

def PrinterFields.wf (p : PrinterFields) : Bool :=
  fits1 p.lmin && fits1 p.lmax && fits1 p.upStep && fits1 p.downStep && fits1 p.waitThreshold
    && fits1 p.marginThreshold

def UnitFields.wf (u : UnitFields) : Bool :=
  fits1 u.unit && fits2 u.on && fits2 u.off && fits2 u.latency

def HoldFields.wf (h : HoldFields) : Bool :=
  fits2 h.lineLimit && fits2 h.bundleLimit && fits2 h.ejectLimit

def JobFields.wf (j : JobFields) : Bool := fits2 j.lowWater && fits1 j.start

/-- A text block holds at most 255 symbols, the largest value of its count byte. -/
def LoadRecord.wf (r : LoadRecord) : Bool :=
  fits4 r.key && fits4 r.route && fits2 r.sequence && fits1 r.text.length

def AmendFields.wf (a : AmendFields) : Bool :=
  fits4 a.key && a.text.all (fun t => fits1 t.length)

def BundleReadFields.wf (b : BundleReadFields) : Bool := fits2 b.bundle && fits1 b.first

def SnapshotFields.wf (f : SnapshotFields) : Bool := fits1 f.line

/-- GAUGE is a ten-bit input (scope file, Connections). -/
def CountInputs.wf (i : CountInputs) : Bool := i.gauge < 1024

/-- The operands of a command lie within the widths of its layout. -/
def Instr.wf : Instr → Bool
  | .setGeometry p => p.all GeometryFields.wf
  | .setProduct p => p.all ProductFields.wf
  | .setInsert p => p.all InsertFields.wf
  | .setBundleLimits p => p.all BundleLimitFields.wf
  | .setRemake p => p.all RemakeFields.wf
  | .setPrinter p => p.all PrinterFields.wf
  | .setUnit p => p.all UnitFields.wf
  | .setHold p => p.all HoldFields.wf
  | .jobSetup p => p.all JobFields.wf
  | .load p => p.all (fun rs => fits1 rs.length && rs.all LoadRecord.wf)
  | .find p => p.all fits4
  | .amend p => p.all AmendFields.wf
  | .withdraw p => p.all fits4
  | .readBundle p => p.all BundleReadFields.wf
  | .releaseBundle p => p.all fits2
  | .releaseExceptions p => p.all fits1
  | .snapshot p => p.all SnapshotFields.wf
  | .encoderForwardCount i => i.wf
  | .refuse _ reason => fits1 reason
  | .printerState value => fits1 value
  | .read key corrected => key.all fits4 && fits1 corrected
  | .responseRead _ | .frameRefused _ | .status _ | .identify _ | .setAttention _ | .jobConfirm _
  | .jobConfirmCompletion | .run _ | .pause _ | .drain _ | .clearSetup _ | .clearConfirm _
  | .clearConfirmCompletion | .reset _ | .readExceptions _ | .readSnapshot _ | .pinResetAssert
  | .pinResetRelease | .encoderReverseCount _ | .faultInputActive _ | .faultInputInactive _
  | .clearEdge _ | .pocketJam _ | .holdTimeout | .holdExpired | .verifyTimeout | .accept _
  | .printed _ | .carrierMessageDiscarded | .carrierTransmitDone | .readDiscarded _
  | .stationInputEdge _ => true

end Sys2Proof
end

