-- ==== Sys2Proof/Decode.lean ====
section
/-! DEFINITION. How commands and events are spelled in bytes: the transactions of the host link (R184,
R185, R196, section 10.7) and the messages of the two serial links (R90, R106, section 10.6), each
decoded by a total function, and the encoder of the host's transactions. The opcode table gives its
rows no bits, so no table word spells a command. -/

namespace Sys2Proof

open Machine (le ofLe unpackSymbols packedBytes textBlock flag)

/-- The command that a word of the opcode table spells: none, for the table gives no row any bits. -/
def decodeTableWord (_nbits _w : Nat) : Option Instr := none

/-! ### Fields of a payload -/

/-- The number in `w` bytes from an offset. -/
def numAt (off w : Nat) (p : List Byte) : Nat := ofLe ((p.drop off).take w)

/-- A payload of fixed length whose fields are in form (R185, R196). -/
def fixedPayload {α : Type} (n : Nat) (ok : Bool) (a : α) (p : List Byte) : Payload α :=
  if p.length = n && ok then .fields a else .malformed

/-- A command that carries no value. -/
def emptyPayload (p : List Byte) : Payload Unit := fixedPayload 0 true () p

/-- A set of inserts in one byte. -/
def insertSetAt (off : Nat) (p : List Byte) : InsertSet := BitVec.ofNat 6 (numAt off 1 p)

/-! ### Payloads of the commands (section 10.7) -/

def decodeGeometry (p : List Byte) : Payload GeometryFields :=
  fixedPayload 16 (numAt 2 1 p < 64)
    { c := numAt 0 2 p, fitted := insertSetAt 2 p,
      offsets := (List.range 6).map (fun i => numAt (3 + i) 1 p), cOff := numAt 9 1 p,
      v := numAt 10 1 p, w := numAt 11 1 p, x := numAt 12 1 p, g := numAt 13 1 p, d := numAt 14 1 p,
      s := numAt 15 1 p } p

def decodeProduct (p : List Byte) : Payload ProductFields :=
  fixedPayload 11 true
    { baseMass := numAt 0 2 p, baseThickness := numAt 2 2 p, carrierMass := numAt 4 1 p,
      carrierThickness := numAt 5 1 p, cutLength := numAt 6 2 p, webWidth := numAt 8 2 p,
      grammage := numAt 10 1 p } p

def decodeInsert (p : List Byte) : Payload InsertFields :=
  fixedPayload 5 (numAt 4 1 p < 2)
    { number := numAt 0 1 p, mass := numAt 1 2 p, thickness := numAt 3 1 p,
      required := numAt 4 1 p == 1 } p

def decodeBundleLimits (p : List Byte) : Payload BundleLimitFields :=
  fixedPayload 4 true { nmax := numAt 0 2 p, mmax := numAt 2 2 p } p

def decodeRemake (p : List Byte) : Payload RemakeFields :=
  fixedPayload 3 true
    { burst := numAt 0 1 p, remakeLimit := numAt 1 1 p, tolerance := numAt 2 1 p } p

def decodePrinter (p : List Byte) : Payload PrinterFields :=
  fixedPayload 6 true
    { lmin := numAt 0 1 p, lmax := numAt 1 1 p, upStep := numAt 2 1 p, downStep := numAt 3 1 p,
      waitThreshold := numAt 4 1 p, marginThreshold := numAt 5 1 p } p

def decodeUnit (p : List Byte) : Payload UnitFields :=
  fixedPayload 8 (numAt 1 1 p < 2)
    { unit := numAt 0 1 p, enable := numAt 1 1 p == 1, on := numAt 2 2 p, off := numAt 4 2 p,
      latency := numAt 6 2 p } p

def decodeHold (p : List Byte) : Payload HoldFields :=
  fixedPayload 6 true
    { lineLimit := numAt 0 2 p, bundleLimit := numAt 2 2 p, ejectLimit := numAt 4 2 p } p

def decodeAttention (p : List Byte) : Payload Byte :=
  fixedPayload 1 true (BitVec.ofNat 8 (numAt 0 1 p)) p

def decodeJob (p : List Byte) : Payload JobFields :=
  fixedPayload 3 true { lowWater := numAt 0 2 p, start := numAt 2 1 p } p

/-- A payload that is one number of `w` bytes. -/
def decodeNumber (w : Nat) (p : List Byte) : Payload Nat := fixedPayload w true (numAt 0 w p) p

/-- The symbols of a text block at the front of some bytes, if the block is whole, and the bytes after
it (R196 Text). -/
def takeText (p : List Byte) : Option (List Symbol × List Byte) :=
  match p with
  | [] => none
  | l :: rest =>
    let n := packedBytes l.toNat
    if rest.length < n then none
    else some (unpackSymbols l.toNat (ofLe (rest.take n)), rest.drop n)

/-- One LOAD record at the front of some bytes, if it is whole, and the bytes after it. Bit 7 of the
flag byte is ignored. -/
def takeRecord (p : List Byte) : Option (LoadRecord × List Byte) :=
  if p.length < 11 then none
  else
    match takeText (p.drop 11) with
    | none => none
    | some (text, rest) =>
      some ({ key := numAt 0 4 p, route := numAt 4 4 p, sequence := numAt 8 2 p,
              version := insertSetAt 10 p, endOfRoute := (numAt 10 1 p).testBit 6, text := text }, rest)

/-- The records that a LOAD payload announces, if they are exactly its bytes (R11). -/
def takeRecords : Nat → List Byte → Option (List LoadRecord)
  | 0, [] => some []
  | 0, _ :: _ => none
  | n + 1, p =>
    match takeRecord p with
    | none => none
    | some (r, rest) => (takeRecords n rest).map (fun rs => r :: rs)

def decodeLoad (p : List Byte) : Payload (List LoadRecord) :=
  match p with
  | [] => .malformed
  | n :: rest =>
    match takeRecords n.toNat rest with
    | none => .malformed
    | some rs => .fields rs

/-- The text that an AMEND carries after its head of 6 bytes, if its length is right. -/
def amendText (carried : Bool) (p : List Byte) : Option (Option (List Symbol)) :=
  if carried then
    match takeText p with
    | some (t, []) => some (some t)
    | some (_, _ :: _) | none => none
  else if p.isEmpty then some none
  else none

def decodeAmend (p : List Byte) : Payload AmendFields :=
  if p.length < 6 || 4 ≤ numAt 4 1 p || 64 ≤ numAt 5 1 p then .malformed
  else
    match amendText ((numAt 4 1 p).testBit 0) (p.drop 6) with
    | none => .malformed
    | some text =>
      .fields
        { key := numAt 0 4 p, text := text,
          version := if (numAt 4 1 p).testBit 1 then some (insertSetAt 5 p) else none }

def decodeReadBundle (p : List Byte) : Payload BundleReadFields :=
  fixedPayload 3 true { bundle := numAt 0 2 p, first := numAt 2 1 p } p

def decodeSnapshot (p : List Byte) : Payload SnapshotFields :=
  fixedPayload 12 true
    { line := numAt 0 1 p, positions := BitVec.ofNat 64 (numAt 1 8 p),
      units := BitVec.ofNat 24 (numAt 9 3 p) } p

/-! ### Transactions (R184) -/

/-- The command of a code and a payload; a code that is no command code is UNKNOWN (R184). -/
def decodeCommand (code : Nat) (p : List Byte) : Instr :=
  match code with
  | 0x01 => .status (emptyPayload p)
  | 0x02 => .identify (emptyPayload p)
  | 0x10 => .setGeometry (decodeGeometry p)
  | 0x11 => .setProduct (decodeProduct p)
  | 0x12 => .setInsert (decodeInsert p)
  | 0x13 => .setBundleLimits (decodeBundleLimits p)
  | 0x14 => .setRemake (decodeRemake p)
  | 0x15 => .setPrinter (decodePrinter p)
  | 0x16 => .setUnit (decodeUnit p)
  | 0x17 => .setHold (decodeHold p)
  | 0x18 => .setAttention (decodeAttention p)
  | 0x20 => .jobSetup (decodeJob p)
  | 0x21 => .jobConfirm (emptyPayload p)
  | 0x22 => .run (emptyPayload p)
  | 0x23 => .pause (emptyPayload p)
  | 0x24 => .drain (emptyPayload p)
  | 0x25 => .clearSetup (emptyPayload p)
  | 0x26 => .clearConfirm (emptyPayload p)
  | 0x27 => .reset (emptyPayload p)
  | 0x30 => .load (decodeLoad p)
  | 0x31 => .find (decodeNumber 4 p)
  | 0x32 => .amend (decodeAmend p)
  | 0x33 => .withdraw (decodeNumber 4 p)
  | 0x40 => .readBundle (decodeReadBundle p)
  | 0x41 => .releaseBundle (decodeNumber 2 p)
  | 0x42 => .readExceptions (emptyPayload p)
  | 0x43 => .releaseExceptions (decodeNumber 1 p)
  | 0x50 => .snapshot (decodeSnapshot p)
  | 0x51 => .readSnapshot (emptyPayload p)
  | _ => .frameRefused .unknown

/-- What a transaction of the host link asks for (R184): its bytes from the fall of SELECT to its rise.
A transaction without a byte is ignored. -/
def decodeFrame (bytes : List Byte) : Option Instr :=
  match bytes with
  | [] => none
  | code :: rest =>
    if code = 0xF0#8 then some (.responseRead rest.length)
    else
      match rest with
      | [] => some (.frameRefused .frame)
      | n :: p =>
        if 250 < n.toNat ∨ p.length ≠ n.toNat then some (.frameRefused .frame)
        else some (decodeCommand code.toNat p)

/-! ### Messages of the serial links (section 10.6) -/

/-- The type and the fields of a message after its start byte, if its length and check byte fit. -/
def linkFields (m : List Byte) : Option (Nat × List Byte) :=
  match m with
  | type :: n :: rest =>
    if rest.length = n.toNat + 1 ∧ m.foldl (fun a b => a + b) 0#8 = 0#8 then
      some (type.toNat, rest.take n.toNat)
    else none
  | _ => none

/-- A message from the printer, taken after its start byte (R90). -/
def decodePrinterMessage (m : List Byte) : Instr :=
  match linkFields m with
  | none => .carrierMessageDiscarded
  | some (type, f) =>
    if type = 0x11 ∧ f.length = 2 then .accept (BitVec.ofNat 16 (numAt 0 2 f))
    else if type = 0x12 ∧ f.length = 2 then .printed (BitVec.ofNat 16 (numAt 0 2 f))
    else if type = 0x13 ∧ f.length = 3 then .refuse (BitVec.ofNat 16 (numAt 0 2 f)) (numAt 2 1 f)
    else if type = 0x14 ∧ f.length = 1 then .printerState (numAt 0 1 f)
    else .carrierMessageDiscarded

/-- A message from the verify reader, taken after its start byte (R106): with NOREAD set the key is
ignored. -/
def decodeReaderMessage (m : List Byte) : Instr :=
  match linkFields m with
  | none => .readDiscarded .malformed
  | some (type, f) =>
    if type = 0x21 ∧ f.length = 6 then
      .read (if (numAt 5 1 f).testBit 0 then none else some (numAt 0 4 f)) (numAt 4 1 f)
    else .readDiscarded .malformed

/-! ### The encoder of the host's transactions -/

/-- A command frame, when its payload fits a frame (R184). -/
def frameOf (code : Nat) (p : List Byte) : Option (List Byte) :=
  if p.length ≤ 250 then some (le 1 code ++ le 1 p.length ++ p) else none

/-- The frame of a command whose payload carries its fields. -/
def frameFields {α : Type} (code : Nat) (f : α → List Byte) (p : Payload α) : Option (List Byte) :=
  match p with
  | .fields a => frameOf code (f a)
  | .malformed => none

def geometryPayload (g : GeometryFields) : List Byte :=
  le 2 g.c ++ le 1 g.fitted.toNat ++ g.offsets.flatMap (le 1) ++ le 1 g.cOff ++ le 1 g.v ++ le 1 g.w
    ++ le 1 g.x ++ le 1 g.g ++ le 1 g.d ++ le 1 g.s

/-- One LOAD record. -/
def recordBytes (r : LoadRecord) : List Byte :=
  le 4 r.key ++ le 4 r.route ++ le 2 r.sequence
    ++ le 1 (r.version.toNat + 64 * r.endOfRoute.toNat) ++ textBlock r.text

def amendPayload (a : AmendFields) : List Byte :=
  le 4 a.key ++ le 1 (a.text.isSome.toNat + 2 * a.version.isSome.toNat)
    ++ le 1 ((a.version.map BitVec.toNat).getD 0)
    ++ match a.text with
      | none => []
      | some t => textBlock t

/-- The bytes of a transaction that asks for a command or a response read; none for an event that is no
transaction, and for a payload that no frame can carry. -/
def encodeFrame (i : Instr) : Option (List Byte) :=
  match i with
  | .responseRead n => some (0xF0#8 :: List.replicate n 0#8)
  | .status p => frameFields 0x01 (fun _ => []) p
  | .identify p => frameFields 0x02 (fun _ => []) p
  | .setGeometry p => frameFields 0x10 geometryPayload p
  | .setProduct p => frameFields 0x11 Machine.productBytes p
  | .setInsert p => frameFields 0x12 Machine.insertBytes p
  | .setBundleLimits p => frameFields 0x13 (fun l => Machine.limitBytes l.nmax l.mmax) p
  | .setRemake p => frameFields 0x14 Machine.remakeBytes p
  | .setPrinter p => frameFields 0x15 Machine.printerBytes p
  | .setUnit p => frameFields 0x16 Machine.unitBytes p
  | .setHold p => frameFields 0x17 Machine.holdBytes p
  | .setAttention p => frameFields 0x18 (fun b => [b]) p
  | .jobSetup p => frameFields 0x20 Machine.jobBytes p
  | .jobConfirm p => frameFields 0x21 (fun _ => []) p
  | .run p => frameFields 0x22 (fun _ => []) p
  | .pause p => frameFields 0x23 (fun _ => []) p
  | .drain p => frameFields 0x24 (fun _ => []) p
  | .clearSetup p => frameFields 0x25 (fun _ => []) p
  | .clearConfirm p => frameFields 0x26 (fun _ => []) p
  | .reset p => frameFields 0x27 (fun _ => []) p
  | .load p => frameFields 0x30 (fun rs => le 1 rs.length ++ rs.flatMap recordBytes) p
  | .find p => frameFields 0x31 (le 4) p
  | .amend p => frameFields 0x32 amendPayload p
  | .withdraw p => frameFields 0x33 (le 4) p
  | .readBundle p => frameFields 0x40 (fun b => le 2 b.bundle ++ le 1 b.first) p
  | .releaseBundle p => frameFields 0x41 (le 2) p
  | .readExceptions p => frameFields 0x42 (fun _ => []) p
  | .releaseExceptions p => frameFields 0x43 (le 1) p
  | .snapshot p =>
    frameFields 0x50 (fun f => le 1 f.line ++ le 8 f.positions.toNat ++ le 3 f.units.toNat) p
  | .readSnapshot p => frameFields 0x51 (fun _ => []) p
  | .frameRefused _ | .jobConfirmCompletion | .clearConfirmCompletion | .pinResetAssert
  | .pinResetRelease | .encoderForwardCount _ | .encoderReverseCount _ | .faultInputActive _
  | .faultInputInactive _ | .clearEdge _ | .pocketJam _ | .holdTimeout | .holdExpired
  | .verifyTimeout | .accept _ | .printed _ | .refuse _ _ | .printerState _
  | .carrierMessageDiscarded | .carrierTransmitDone | .read _ _ | .readDiscarded _
  | .stationInputEdge _ => none

end Sys2Proof
end

