-- ==== Sys2Proof/Machine/Resets.lean ====
section
/-! DEFINITION. What each block becomes at the RESET command and at the completions of CLEAR CONFIRM
and JOB CONFIRM: the columns of the reset tables (R26, R44, R65, R89, R105, R112, R131, R157, R173). -/

namespace Sys2Proof.Machine

/-! ### Blocks -/

/-- The mailing queue emptied, with the two values of the ORDER check absent (R12, R26). -/
def Queue.emptied (q : Queue) : Queue :=
  { q with order := [], lastKey := none, lastEnded := none, consecutive := 0 }

/-- Every entry of the plan table FREE (R44). -/
def Planner.emptied (p : Planner) : Planner := { p with plans := List.replicate Config.planSlots none }

/-- The flags and causes that every end of a job clears (R53, R65). -/
def LineUnit.cleared (l : LineUnit) : LineUnit :=
  { l with drain := false, pause := false, first := none, further := 0 }

/-- The line unit's counts and timers that the RESET command and JOB CONFIRM set to 0 (R53, R65). -/
def LineUnit.zeroed (l : LineUnit) : LineUnit :=
  { l with pitch := 0, period := none, sinceMark := none, holdTimer := MsTimer.zero }

/-- The tracking table emptied and its counts at their reset values (R68, R71, R89). -/
def Tracking.initial : Tracking := { pieces := [], counter := 0, gapCount := 0, lastGap := none }

/-- Lq from the start value in force, with the accumulator and the adaptation window at 0 (R104, R105,
R112). -/
def Carrier.restart (c : Carrier) : Carrier :=
  { c with
    jobs := []
    lq := bringInto c.lmin c.lmax c.start
    accumulator := 0
    windowCount := 0
    waits := 0 }

/-- The carrier unit's accounts of the printer (R90, R97, R112). -/
def Carrier.forget (c : Carrier) : Carrier := { c with lastRefusal := none, linkErrors := 0 }

/-- The verify unit's list and print-quality window emptied (R111, R112). -/
def Verify.emptied (v : Verify) : Verify :=
  { v with expected := [], previous := none, reads := 0, marginals := 0, printQuality := false }

/-- The verify unit's link counts at 0 (R106, R112). -/
def Verify.forget (v : Verify) : Verify := { v with linkErrors := 0, strays := 0 }

/-- The six diverter counts at 0 (R131). -/
def Diverter.zeroed (d : Diverter) : Diverter :=
  { d with passed := 0, claims := 0, remade := 0, spoiled := 0, withdrawn := 0, lateMade := 0 }

/-- The bundle table, the pockets, the closed order and the exception list emptied (R157). -/
def Stacker.emptied (k : Stacker) : Stacker :=
  { k with
    bundles := []
    ejectA := EjectTimer.stopped
    ejectB := EjectTimer.stopped
    lastReserved := none
    request := none
    closedOrder := []
    exceptions := [] }

/-- The bundle counter and the stacker unit's accounts at their reset values (R75, R138, R148, R157). -/
def Stacker.forget (k : Stacker) : Stacker :=
  { k with counter := 1, lateCount := 0, lastFreed := none, freedCount := 0 }

/-- No hold cause stands (R58). -/
def Holds.emptied : Holds := { causes := HoldSet.none, raised := HoldSet.none }

/-- A record of a job that JOB CONFIRM begins (R44): its plan reference is removed, and with the bundle
table emptied it holds no bundle number (R3, R157). -/
def Record.unplan (r : Record) : Record := { r with planRef := none, bundle := none }

/-! ### The RESET command (R181, R182) -/

/-- Every block but the host link at the RESET command: the RESET columns. -/
def resetBlocks (s : State) : State :=
  produceCancelAll
    { s with
      store := []
      queue := s.queue.emptied
      planner := s.planner.emptied
      line := { s.line.cleared.zeroed with state := .idle }
      holds := Holds.emptied
      tracking := Tracking.initial
      carrier := s.carrier.restart.forget
      verify := s.verify.emptied.forget
      diverter := s.diverter.zeroed
      stacker := s.stacker.emptied.forget
      units := s.units.map (TimingUnit.atReset s.geometry.c) }

/-- The host link at the RESET command: its own OK in the slot, the latch empty, every snapshot item
unlatched, a long operation abandoned, and CLEARED set (R180, R181, R182, R186, R195). -/
def HostLink.atReset (h : HostLink) : HostLink :=
  { h with
    slot := .formed .ok []
    latch := .empty
    operation := none
    cleared := true
    lineItem := none
    positionItems := []
    unitItems := [] }

/-- The RESET command (R181). -/
def resetCommand (s : State) : State :=
  let s1 := resetBlocks s
  { s1 with host := s1.host.atReset }

/-! ### The completion of CLEAR CONFIRM (R179) -/

/-- Every block but the host link at the completion of CLEAR CONFIRM: the CLEAR CONFIRM columns. The
tracking table is empty, as the command requires (R89). -/
def clearBlocks (s : State) : State :=
  let s1 := stopLine .idle { s with tracking := { s.tracking with pieces := [] } }
  produceCancelAll
    { s1 with
      store := []
      queue := s1.queue.emptied
      planner := s1.planner.emptied
      line := s1.line.cleared
      holds := Holds.emptied
      carrier := s1.carrier.restart
      verify := s1.verify.emptied
      stacker := s1.stacker.emptied
      units := s1.units.map TimingUnit.atConfirm }

/-- The completion of CLEAR CONFIRM, in one act (R179, R180). -/
def completeClear (s : State) : State :=
  let s1 := clearBlocks s
  { s1 with
    host :=
      { s1.host with
        slot := .formed .ok (le 2 (freeCount s1))
        operation := none
        cleared := true } }

/-! ### The completion of JOB CONFIRM (R176) -/

/-- Every block but the host link at the completion of JOB CONFIRM: the JOB CONFIRM columns, with the
low-water value and the start value that the setup carried. The tracking table is empty, since the line
is IDLE (R89). -/
def jobBlocks (lowWater start : Nat) (s : State) : State :=
  let s1 := stopLine .stopped { s with tracking := Tracking.initial }
  { s1 with
    store := s1.store.map Record.unplan
    queue := { s1.queue with consecutive := 0, lowWater := lowWater }
    planner := s1.planner.emptied
    line := s1.line.cleared.zeroed
    holds := Holds.emptied
    carrier := { s1.carrier with start := start }.restart.forget
    verify := s1.verify.emptied.forget
    diverter := s1.diverter.zeroed
    stacker := s1.stacker.emptied.forget
    units := s1.units.map TimingUnit.atConfirm }

/-- The completion of JOB CONFIRM, in one act (R176, R180). -/
def completeJob (lowWater start : Nat) (s : State) : State :=
  let s1 := jobBlocks lowWater start s
  { s1 with
    host := { s1.host with slot := .formed .ok [], operation := none, cleared := false } }

/-! ### Pin reset (R183) -/

/-- The span that a release begins (R183, log entry 10): RDY rises within 1 ms, and a transaction begun
before the rise may end after it. Both are free values of the draw `n`. -/
def Startup.begun (n : Nat) : Startup :=
  { rdyIn := if Config.rdyRise n = 0 then none else some (min 1000 (Config.rdyRise n))
    straddles := Config.straddlesRise n }

/-- The release of the reset input: every item of state takes its pin reset value. The levels of the
inputs are the outside's, the queue of waiting commands and the draw counter are the model's. -/
def pinResetRelease (s : State) : State :=
  { State.reset with
    inputs := { s.inputs with reset := false }
    startup := Startup.begun s.draws
    draws := s.draws + 1
    pending := s.pending }

end Sys2Proof.Machine
end

