-- ==== Sys2Proof/Machine/HostLink.lean ====
section
/-! DEFINITION. The host link: how a command is taken and answered, response reads, refused frames,
STATUS, IDENTIFY, SET ATTENTION and the snapshots (chapter 10). -/

namespace Sys2Proof.Machine

/-! ### Answers and the taking of a command (R185 to R188) -/

/-- A command's response is FORMED and replaces whatever the slot held (R186). -/
def answer (code : ResultCode) (payload : List Byte) (s : State) : State :=
  { s with host := { s.host with slot := .formed code payload } }

/-- A refusal: its payload is empty (log entry 11). -/
def refuseWith (code : ResultCode) (s : State) : State := answer code [] s

/-- The setup latch is emptied (R188). -/
def emptyLatch (s : State) : State := { s with host := { s.host with latch := .empty } }

/-- OK, or OK-CLAMPED where a value was converted (section 10.6). -/
def okOrClamped (clamped : Bool) : ResultCode := if clamped then .okClamped else .ok

/-- A frame is taken or discarded (R183, R184): discarded while the reset input is asserted and until RDY
has risen after its release, and so is the one frame whose transaction began before the rise. -/
def takeFrame (act : State → State) (s : State) : State :=
  if s.inputs.reset || s.startup.rdyIn.isSome then s
  else if s.startup.straddles then { s with startup := Startup.over }
  else act s

/-- A host command other than STATUS and RESET on a part that takes frames (R185, R187, R188): BUSY, with
no effect, while a long operation is in progress; else the latch is emptied, a payload of wrong length or
out of form is refused with RANGE, and the command acts. `bad` is the payload of that refusal. -/
def runOrRefuse {α : Type} (bad : State → List Byte) (p : Payload α) (act : α → State → State)
    (s : State) : State :=
  if busy s then refuseWith .busy s
  else
    match p with
    | .fields a => act a (emptyLatch s)
    | .malformed => answer .range (bad s) (emptyLatch s)

/-- A host command other than STATUS and RESET, taken or discarded (R184, R185). -/
def hostCommandOr {α : Type} (bad : State → List Byte) (p : Payload α) (act : α → State → State)
    (s : State) : State := takeFrame (runOrRefuse bad p act) s

/-- A host command whose refusal carries no payload. -/
def hostCommand {α : Type} (p : Payload α) (act : α → State → State) (s : State) : State :=
  hostCommandOr (fun _ => []) p act s

/-- An event that the part takes only while its reset input is not asserted (R183). -/
def lineEvent (act : State → State) (s : State) : State := if s.inputs.reset then s else act s

/-! ### RESPONSE_READ and FRAME_REFUSED (R184, R186, R188) -/

/-- The bytes a response read can clock out of a slot: status byte, length byte and payload. An EMPTY
or PENDING slot gives status 00h and length 0. -/
def Slot.bytes : Slot → List Byte
  | .empty | .pending => [0#8, 0#8]
  | .formed code payload => le 1 (128 + code.value) ++ le 1 payload.length ++ payload

/-- The slot after a response read of `clocked` bytes: a FORMED response read whole is gone. -/
def Slot.afterRead (clocked : Nat) (r : Slot) : Slot :=
  match r with
  | .formed _ _ => if r.bytes.length ≤ clocked then .empty else r
  | .empty | .pending => r

/-- `n` bytes clocked out of a response: bytes after the payload are 00h. -/
def clockOut (n : Nat) (bytes : List Byte) : List Byte :=
  (bytes ++ List.replicate (n - bytes.length) 0#8).take n

/-- A response read (R186). Once RDY has risen it may be the transaction that began before the rise
(R184). -/
def responseRead (clocked : Nat) (s : State) : State :=
  { s with
    startup := if s.startup.rdyIn.isNone then Startup.over else s.startup
    host :=
      { s.host with
        clockedOut := clockOut clocked s.host.slot.bytes
        slot := s.host.slot.afterRead clocked } }

/-- RESPONSE_READ (R186): taken in every state but under an asserted reset input (R183). -/
def execResponseRead (clocked : Nat) (s : State) : Host.Outcome State Fault Refusal :=
  .next (lineEvent (responseRead clocked) s)

/-- The result code of a frame that is no command (R184). -/
def frameErrorCode : FrameError → ResultCode
  | .frame => .frame
  | .unknown => .unknown

/-- A frame that is no command (R184, R186, R188): answered in every state, busy or not, and it
empties the latch. -/
def frameRefused (why : FrameError) (s : State) : State := refuseWith (frameErrorCode why) (emptyLatch s)

/-- FRAME_REFUSED (R184). -/
def execFrameRefused (why : FrameError) (s : State) : Host.Outcome State Fault Refusal :=
  .next (takeFrame (frameRefused why) s)

/-! ### STATUS, IDENTIFY and SET ATTENTION (R189 to R191) -/

/-- STATUS is taken in every state, busy or not, and leaves the setup latch as it is (R189). -/
def takeStatus (p : Payload Unit) (s : State) : State :=
  match p with
  | .fields _ => answer .ok (statusPayload s) s
  | .malformed => refuseWith .range s

/-- STATUS (R189). -/
def execStatus (p : Payload Unit) (s : State) : Host.Outcome State Fault Refusal :=
  .next (takeFrame (takeStatus p) s)

/-- The payload of IDENTIFY: part code and revision (R190). -/
def identityBytes : List Byte := le 2 Config.partCode ++ le 1 Config.revision

/-- IDENTIFY (R190). -/
def execIdentify (p : Payload Unit) (s : State) : Host.Outcome State Fault Refusal :=
  .next (hostCommand p (fun _ => answer .ok identityBytes) s)

/-- The effect of SET ATTENTION (R191): a byte with bit 6 or bit 7 set is refused. -/
def setAttention (b : Byte) (s : State) : State :=
  if b.toNat < 64 then
    answer .ok [b] { s with host := { s.host with attention := b.truncate 6 } }
  else refuseWith .range s

/-- SET ATTENTION (R191). -/
def execSetAttention (p : Payload Byte) (s : State) : Host.Outcome State Fault Refusal :=
  .next (hostCommand p setAttention s)

/-! ### SNAPSHOT (R192, R193) -/

/-- The positions a SNAPSHOT names. -/
def namedPositions (f : SnapshotFields) : List Nat :=
  (List.range 64).filter (fun n => f.positions.getLsbD n)

/-- The units a SNAPSHOT names. -/
def namedUnits (f : SnapshotFields) : List Nat := (List.range 24).filter (fun n => f.units.getLsbD n)

/-- The checks of R192. -/
def snapshotInRange (s : State) (f : SnapshotFields) : Bool :=
  f.line ≤ 1
    && (f.line == 1 || !(namedPositions f).isEmpty || !(namedUnits f).isEmpty)
    && (namedPositions f).all (fun n => s.geometry.isSet && n ≤ s.geometry.s)
    && (namedUnits f).all (fun u => u ≤ 18)

/-- The line item as it stands (R193). -/
def lineItemNow (s : State) : LineItem := { line := s.line, causes := s.holds.causes }

/-- The readout of a piece: its record, its position and its address record's nominal thickness
(section 10.6). -/
def readoutNow (s : State) (p : Piece) : PieceReadout :=
  { piece := p, position := position s p,
    nominalThickness := ((findRecord s p.key).map (fun r => r.nominalThickness)).getD 0 }

/-- The position item of a position as it stands (R193). -/
def positionItemNow (s : State) (n : Nat) : PositionItem :=
  { position := n, expectedCount := s.verify.expected.length,
    entryHeld := (pieceAt s n).any (fun p => decide (p.number ∈ s.verify.expected)),
    occupant := (pieceAt s n).map (readoutNow s) }

/-- The unit item of a unit as it stands (R172, R193). -/
def unitItemNow (s : State) (u : Nat) : UnitItem := { unit := u, content := unitAt s u }

/-- The position items after a SNAPSHOT, in increasing position: an item already latched stays (R192). -/
def latchPositions (s : State) (named : List Nat) : List PositionItem :=
  (List.range 64).filterMap (fun n =>
    match s.host.positionItems.find? (fun i => i.position == n) with
    | some i => some i
    | none => if n ∈ named then some (positionItemNow s n) else none)

/-- The unit items after a SNAPSHOT, in increasing unit number (R192). -/
def latchUnits (s : State) (named : List Nat) : List UnitItem :=
  (List.range Config.unitCount).filterMap (fun u =>
    match s.host.unitItems.find? (fun i => i.unit == u) with
    | some i => some i
    | none => if u ∈ named then some (unitItemNow s u) else none)

/-- How many items are latched. -/
def latchedCount (h : HostLink) : Nat :=
  h.lineItem.isSome.toNat + h.positionItems.length + h.unitItems.length

/-- The host link with the named items latched (R192). -/
def latchItems (f : SnapshotFields) (s : State) : HostLink :=
  { s.host with
    lineItem := if f.line = 1 then some (s.host.lineItem.getD (lineItemNow s)) else s.host.lineItem
    positionItems := latchPositions s (namedPositions f)
    unitItems := latchUnits s (namedUnits f) }

/-- The effect of SNAPSHOT (R192): the answer counts the items newly latched and the named items left
as they were. -/
def snapshot (f : SnapshotFields) (s : State) : State :=
  if snapshotInRange s f then
    let h := latchItems f s
    let named := f.line + (namedPositions f).length + (namedUnits f).length
    let fresh := latchedCount h - latchedCount s.host
    answer .ok (le 1 fresh ++ le 1 (named - fresh)) { s with host := h }
  else refuseWith .range s

/-- SNAPSHOT (R192). -/
def execSnapshot (p : Payload SnapshotFields) (s : State) : Host.Outcome State Fault Refusal :=
  .next (hostCommand p snapshot s)

/-! ### READ SNAPSHOT (R194) -/

/-- The bytes of the latched items, in the order in which they are returned (R194). -/
def latchedBytes (h : HostLink) : List (List Byte) :=
  (h.lineItem.map lineItemBytes).toList ++ h.positionItems.map positionItemBytes
    ++ h.unitItems.map unitItemBytes

/-- The items that fit whole, one after the other, into some room (R194). -/
def fitting : Nat → List (List Byte) → List (List Byte)
  | _, [] => []
  | room, b :: bs => if b.length ≤ room then b :: fitting (room - b.length) bs else []

/-- The host link without its first `n` latched items (R194). -/
def HostLink.unlatch (n : Nat) (h : HostLink) : HostLink :=
  let l := h.lineItem.isSome.toNat
  { h with
    lineItem := if n = 0 then h.lineItem else none
    positionItems := h.positionItems.drop (n - l)
    unitItems := h.unitItems.drop (n - l - h.positionItems.length) }

/-- The effect of READ SNAPSHOT (R194). -/
def readSnapshot (s : State) : State :=
  let items := fitting (Config.maxPayload - 2) (latchedBytes s.host)
  let h := s.host.unlatch items.length
  answer .ok (le 1 items.length ++ le 1 (latchedCount h) ++ items.flatten) { s with host := h }

/-- READ SNAPSHOT (R194). -/
def execReadSnapshot (p : Payload Unit) (s : State) : Host.Outcome State Fault Refusal :=
  .next (hostCommand p (fun _ => readSnapshot) s)

end Sys2Proof.Machine
end

