-- ==== Sys2Proof/Machine/Settings.lean ====
section
/-! DEFINITION. The setting commands: geometry, product, inserts, bundle limits, remake, printer, unit
and hold settings. Each answers with the values used in the layout of its own payload (section 10.7). -/

namespace Sys2Proof.Machine

/-! ### SET GEOMETRY (R50, R103, R161) -/

/-- Every QUEUED record's nominal values computed again (R14). -/
def recompute (s : State) : State :=
  mapRecords (fun r => if r.state = .queued then withNominals s.planner r else r) s

/-- The carrier unit with its lead range lowered to a cap (R103). -/
def Carrier.lowered (cap : Nat) (c : Carrier) : Carrier :=
  { c with lmin := min cap c.lmin, lmax := min cap c.lmax, lq := min cap c.lq }

/-- The in-pitch count, the backlash count and the timing units at a new C (R50, R161); a C that stays
the same leaves them as they were. -/
def bringWithin (c : Nat) (s : State) : State :=
  if c = s.geometry.c then s
  else
    { s with
      line := { s.line with inPitch := 0, backlash := 0 }
      units := s.units.map (TimingUnit.atNewC c) }

/-- The effect of SET GEOMETRY (R50). -/
def setGeometry (f : GeometryFields) (s : State) : State :=
  if s.line.state ≠ .idle then refuseWith .state s
  else if geometryInRange f && recordsFitted s.store (geometryOf f) then
    let g := geometryOf f
    let s1 := bringWithin g.c s
    answer .ok (geometryBytes g)
      { s1 with geometry := g, carrier := s1.carrier.lowered (leadCap g) }
  else refuseWith .range s

/-- SET GEOMETRY (R50). -/
def execSetGeometry (p : Payload GeometryFields) (s : State) : Host.Outcome State Fault Refusal :=
  .next (hostCommand p setGeometry s)

/-! ### SET PRODUCT and SET INSERT (R14, R27, R28, R81) -/

/-- The product settings that SET PRODUCT carries. -/
def productOf (f : ProductFields) : Product :=
  { baseMass := f.baseMass, baseThickness := f.baseThickness, carrierMass := f.carrierMass,
    carrierThickness := f.carrierThickness, cutLength := f.cutLength, webWidth := f.webWidth,
    grammage := f.grammage }

/-- The effect of SET PRODUCT (R27): the film mass and every QUEUED record's nominal values follow. -/
def setProduct (f : ProductFields) (s : State) : State :=
  if s.line.state ≠ .idle then refuseWith .state s
  else if productInRange f then
    answer .ok (productBytes f)
      (recompute
        { s with
          planner :=
            { s.planner with product := productOf f, filmMass := filmMassOf (productOf f) } })
  else refuseWith .range s

/-- SET PRODUCT (R27). -/
def execSetProduct (p : Payload ProductFields) (s : State) : Host.Outcome State Fault Refusal :=
  .next (hostCommand p setProduct s)

/-- The effect of SET INSERT (R28, R81). -/
def setInsert (f : InsertFields) (s : State) : State :=
  if s.line.state ≠ .idle then refuseWith .state s
  else if insertInRange f then
    answer .ok (insertBytes f)
      (recompute
        { s with
          planner :=
            { s.planner with
              inserts := s.planner.inserts.set (f.number - 1)
                { mass := f.mass, thickness := f.thickness, required := f.required } } })
  else refuseWith .range s

/-- SET INSERT (R28, R81). -/
def execSetInsert (p : Payload InsertFields) (s : State) : Host.Outcome State Fault Refusal :=
  .next (hostCommand p setInsert s)

/-! ### SET BUNDLE LIMITS (R31) -/

/-- The effect of SET BUNDLE LIMITS (R31). -/
def setBundleLimits (f : BundleLimitFields) (s : State) : State :=
  if s.line.state = .idle ∨ s.line.state = .stopped then
    answer (okOrClamped (limitsClamped f)) (limitBytes (nmaxUsed f.nmax) (mmaxUsed f.mmax))
      { s with
        planner := { s.planner with nmax := nmaxUsed f.nmax, mmax := mmaxUsed f.mmax } }
  else refuseWith .state s

/-- SET BUNDLE LIMITS (R31). -/
def execSetBundleLimits (p : Payload BundleLimitFields) (s : State) :
    Host.Outcome State Fault Refusal :=
  .next (hostCommand p setBundleLimits s)

/-! ### SET REMAKE (R16, R130) -/

/-- The effect of SET REMAKE (R130). -/
def setRemake (f : RemakeFields) (s : State) : State :=
  let u := remakeUsed f
  answer (okOrClamped (u ≠ f)) (remakeBytes u)
    { s with
      queue := { s.queue with burst := u.burst }
      diverter := { s.diverter with remakeLimit := u.remakeLimit, tolerance := u.tolerance } }

/-- SET REMAKE (R130). -/
def execSetRemake (p : Payload RemakeFields) (s : State) : Host.Outcome State Fault Refusal :=
  .next (hostCommand p setRemake s)

/-! ### SET PRINTER (R103) -/

/-- The effect of SET PRINTER (R103): refused when the carried Lmin exceeds the carried Lmax. -/
def setPrinter (f : PrinterFields) (s : State) : State :=
  if f.lmax < f.lmin then refuseWith .range s
  else
    let u := printerUsed s.geometry f
    answer (okOrClamped (u ≠ f)) (printerBytes u)
      { s with
        carrier :=
          { s.carrier with
            lmin := u.lmin
            lmax := u.lmax
            upStep := u.upStep
            downStep := u.downStep
            waitThreshold := u.waitThreshold
            marginThreshold := u.marginThreshold
            lq := bringInto u.lmin u.lmax s.carrier.lq } }

/-- SET PRINTER (R103). -/
def execSetPrinter (p : Payload PrinterFields) (s : State) : Host.Outcome State Fault Refusal :=
  .next (hostCommand p setPrinter s)

/-! ### SET UNIT (R160, R169, R170) -/

/-- The effect of SET UNIT (R160): in IDLE or STOPPED the values take effect at once, in which act U16
may close a window and sample GAUGE (R169), else they become the unit's pending settings. -/
def setUnit (f : UnitFields) (s : State) : State :=
  let u := unitUsed s.geometry f
  if 18 < f.unit ∨ u.on = u.off then refuseWith .range s
  else if s.line.state = .idle ∨ s.line.state = .stopped then
    answer (okOrClamped (u ≠ f)) (unitBytes u ++ le 1 0)
      (settle (writeUnit f.unit (unitSettings u) (freshGauge (f.unit == 16) s)))
  else
    answer (okOrClamped (u ≠ f)) (unitBytes u ++ le 1 1)
      (updateUnit f.unit (fun t => { t with pending := some (unitSettings u) }) s)

/-- SET UNIT (R160). -/
def execSetUnit (p : Payload UnitFields) (s : State) : Host.Outcome State Fault Refusal :=
  .next (hostCommand p setUnit s)

/-! ### SET HOLD (R60, R147, R156) -/

/-- The effect of SET HOLD (R60, R156): a running timer that the new limits already find expired is
taken when the command is. -/
def setHold (f : HoldFields) (s : State) : State :=
  let u := holdUsed f
  answer (okOrClamped (u ≠ f)) (holdBytes u)
    (passTime 0
      { s with
        line := { s.line with holdLimit := u.lineLimit }
        stacker := { s.stacker with holdLimit := u.bundleLimit, ejectLimit := u.ejectLimit } })

/-- SET HOLD (R60, R156). -/
def execSetHold (p : Payload HoldFields) (s : State) : Host.Outcome State Fault Refusal :=
  .next (hostCommand p setHold s)

end Sys2Proof.Machine
end

