-- ==== Sys2Proof/Machine/Jobs.lean ====
section
/-! DEFINITION. The commands of a job: JOB SETUP and JOB CONFIRM, RUN, PAUSE, DRAIN, CLEAR SETUP and
CLEAR CONFIRM, the completions of the two long operations, and RESET (chapter 9, R53 to R56). -/

namespace Sys2Proof.Machine

/-! ### JOB SETUP and JOB CONFIRM (R174 to R176) -/

/-- The setup latch is filled (R175). -/
def fillLatch (l : SetupLatch) (s : State) : State := { s with host := { s.host with latch := l } }

/-- The effect of JOB SETUP (R174). -/
def jobSetup (f : JobFields) (s : State) : State :=
  let u := jobUsed f
  if s.line.state ≠ .idle ∨ s.geometry.isSet = false then refuseWith .state s
  else answer (okOrClamped (u ≠ f)) (jobBytes u) (fillLatch (.job u.lowWater u.start) s)

/-- JOB SETUP (R174). -/
def execJobSetup (p : Payload JobFields) (s : State) : Host.Outcome State Fault Refusal :=
  .next (hostCommand p jobSetup s)

/-- A long operation begins: the part is busy and the slot PENDING (R176, R178, R186). -/
def beginOperation (o : Operation) (s : State) : State :=
  { s with host := { s.host with operation := some o, slot := .pending } }

/-- The effect of JOB CONFIRM, judged by what the latch held when it was taken (R175). -/
def jobConfirm (held : SetupLatch) (s : State) : State :=
  match held with
  | .job low start => beginOperation (.jobConfirm low start) s
  | .empty | .clear => refuseWith .sequence s

/-- JOB CONFIRM (R175, R176). -/
def execJobConfirm (p : Payload Unit) (s : State) : Host.Outcome State Fault Refusal :=
  .next (hostCommand p (fun _ => jobConfirm s.host.latch) s)

/-- The completion of the JOB CONFIRM in progress (R176); with none in progress nothing happens. -/
def jobConfirmCompletion (s : State) : State :=
  match s.host.operation with
  | some (.jobConfirm low start) => completeJob low start s
  | some .clearConfirm | none => s

/-- JOB_CONFIRM_COMPLETION (R176). -/
def execJobConfirmCompletion (s : State) : Host.Outcome State Fault Refusal :=
  .next (lineEvent jobConfirmCompletion s)

/-! ### RUN, PAUSE and DRAIN (R54 to R56) -/

/-- The line starts from a standstill (R54): to the moving state, or to HOLDING while a hold cause
stands. -/
def startOrHold (s : State) : State :=
  if s.holds.causes.isEmpty then startMoving s else enterLine .holding s

/-- The first cause and the further-cause set are emptied (R54). -/
def clearCauses (s : State) : State := { s with line := { s.line with first := none, further := 0 } }

/-- The effect of RUN (R54). -/
def runLine (s : State) : State :=
  match s.line.state with
  | .idle => refuseWith .state s
  | .stopped => if anyFaultInput s then refuseWith .state s else answer .ok [] (startOrHold s)
  | .faulted =>
    if anyFaultInput s then refuseWith .state s else answer .ok [] (startOrHold (clearCauses s))
  | .running | .draining => answer .ok [] { s with line := { s.line with pause := false } }
  | .holding => answer .ok [] s

/-- RUN (R54). -/
def execRun (p : Payload Unit) (s : State) : Host.Outcome State Fault Refusal :=
  .next (hostCommand p (fun _ => runLine) s)

/-- The effect of PAUSE (R55): a change from HOLDING to STOPPED applies pending unit settings (R171), in
which act U16 may close a window and sample GAUGE. -/
def pauseLine (s : State) : State :=
  match s.line.state with
  | .running | .draining => answer .ok [] { s with line := { s.line with pause := true } }
  | .holding =>
    answer .ok [] (stopLine .stopped (freshGauge (unitAt s 16).pending.isSome s))
  | .stopped => answer .ok [] s
  | .idle | .faulted => refuseWith .state s

/-- PAUSE (R55). -/
def execPause (p : Payload Unit) (s : State) : Host.Outcome State Fault Refusal :=
  .next (hostCommand p (fun _ => pauseLine) s)

/-- The drain flag is set (R52, R56). -/
def setDrain (s : State) : State := { s with line := { s.line with drain := true } }

/-- The effect of DRAIN (R56): from RUNNING the pause flag is kept; entering DRAINING makes the drain
test (R57). -/
def drainLine (s : State) : State :=
  match s.line.state with
  | .running =>
    answer .ok [] (drainTest { s with line := { s.line with state := .draining, drain := true } })
  | .stopped =>
    if anyFaultInput s then refuseWith .state s else answer .ok [] (startMoving (setDrain s))
  | .holding | .faulted => answer .ok [] (setDrain s)
  | .draining => answer .ok [] s
  | .idle => refuseWith .state s

/-- DRAIN (R56). -/
def execDrain (p : Payload Unit) (s : State) : Host.Outcome State Fault Refusal :=
  .next (hostCommand p (fun _ => drainLine) s)

/-! ### CLEAR SETUP and CLEAR CONFIRM (R177 to R179) -/

/-- The three conditions of a clear (R177). -/
def clearable (s : State) : Bool :=
  decide (s.line.state = .stopped ∨ s.line.state = .idle) && s.tracking.pieces.isEmpty
    && !anyEjecting s

/-- The effect of CLEAR SETUP (R177). -/
def clearSetup (s : State) : State :=
  if clearable s then answer .ok [] (fillLatch .clear s) else refuseWith .state s

/-- CLEAR SETUP (R177). -/
def execClearSetup (p : Payload Unit) (s : State) : Host.Outcome State Fault Refusal :=
  .next (hostCommand p (fun _ => clearSetup) s)

/-- The effect of CLEAR CONFIRM, judged by what the latch held and then by the conditions (R178). -/
def clearConfirm (held : SetupLatch) (s : State) : State :=
  match held with
  | .clear => if clearable s then beginOperation .clearConfirm s else refuseWith .state s
  | .empty | .job _ _ => refuseWith .sequence s

/-- CLEAR CONFIRM (R178). -/
def execClearConfirm (p : Payload Unit) (s : State) : Host.Outcome State Fault Refusal :=
  .next (hostCommand p (fun _ => clearConfirm s.host.latch) s)

/-- The completion of the CLEAR CONFIRM in progress (R179); with none in progress nothing happens. -/
def clearConfirmCompletion (s : State) : State :=
  match s.host.operation with
  | some .clearConfirm => completeClear s
  | some (.jobConfirm _ _) | none => s

/-- CLEAR_CONFIRM_COMPLETION (R179). -/
def execClearConfirmCompletion (s : State) : Host.Outcome State Fault Refusal :=
  .next (lineEvent clearConfirmCompletion s)

/-! ### RESET (R181, R182) -/

/-- The RESET command is taken in every line state, busy or not (R181); a wrong length is refused
with RANGE like any other command's (R185). -/
def takeReset (p : Payload Unit) (s : State) : State :=
  match p with
  | .fields _ => resetCommand s
  | .malformed => refuseWith .range (emptyLatch s)

/-- RESET (R181, R182). -/
def execReset (p : Payload Unit) (s : State) : Host.Outcome State Fault Refusal :=
  .next (takeFrame (takeReset p) s)

end Sys2Proof.Machine
end

