-- ==== Sys2Proof/Machine/LineEvents.lean ====
section
/-! DEFINITION. The events of pins, encoder, fault inputs, pockets and time limits (R45 to R47, R60,
R61, R110, R140, R146, R147, R183). None is taken while the reset input is asserted, but for the levels
of the inputs and the release itself. -/

namespace Sys2Proof.Machine

/-! ### The reset input (R183) -/

/-- PIN_RESET_ASSERT (R183): while the input is asserted the outputs are released (`driveOn`,
`ejectOutput`, `unitOutput`, `attn`, `rdy`) and no event is taken. -/
def execPinResetAssert (s : State) : Host.Outcome State Fault Refusal :=
  .next { s with inputs := { s.inputs with reset := true } }

/-- PIN_RESET_RELEASE (R183): every item of state takes its pin reset value, and RDY rises within 1 ms.
An input that is not asserted cannot be released (log entry 10). -/
def execPinResetRelease (s : State) : Host.Outcome State Fault Refusal :=
  .next (if s.inputs.reset then pinResetRelease s else s)

/-! ### The encoder (R45, R46) -/

/-- ENCODER_FORWARD_COUNT (R45): the GAUGE input takes its level, the time since the last count passes,
and the count is taken. -/
def execEncoderForwardCount (i : CountInputs) (s : State) : Host.Outcome State Fault Refusal :=
  .next (lineEvent (fun t => forwardCount i.order (passTime i.elapsed t))
    { s with inputs := { s.inputs with gauge := i.gauge } })

/-- ENCODER_REVERSE_COUNT (R46). -/
def execEncoderReverseCount (elapsed : Nat) (s : State) : Host.Outcome State Fault Refusal :=
  .next (lineEvent (fun t => reverseCount (passTime elapsed t)) s)

/-! ### Fault inputs (R61) -/

/-- The level of a fault input. -/
def Inputs.level (i : Inputs) : FaultInput → Bool
  | .jam => i.jam
  | .filmbrk => i.filmbrk
  | .guard => i.guard

/-- A fault input takes a level. -/
def setFaultInput (f : FaultInput) (b : Bool) (s : State) : State :=
  match f with
  | .jam => { s with inputs := { s.inputs with jam := b } }
  | .filmbrk => { s with inputs := { s.inputs with filmbrk := b } }
  | .guard => { s with inputs := { s.inputs with guard := b } }

/-- The fault cause of an input (table of section 3.6). -/
def inputCause : FaultInput → FaultCause
  | .jam => .jam
  | .filmbrk => .filmbrk
  | .guard => .guard

/-- FAULT_INPUT_ACTIVE (R61): a change from inactive to active raises the input's fault. -/
def execFaultInputActive (f : FaultInput) (s : State) : Host.Outcome State Fault Refusal :=
  .next
    (if s.inputs.level f then s
     else lineEvent (takeFault (inputCause f)) (setFaultInput f true s))

/-- FAULT_INPUT_INACTIVE (R61): no fault state changes. -/
def execFaultInputInactive (f : FaultInput) (s : State) : Host.Outcome State Fault Refusal :=
  .next (setFaultInput f false s)

/-! ### Pockets (R146, R147) -/

/-- A CLEAR edge at a pocket (R146): it completes the ejection of an EJECTING bundle, and is ignored at
any other pocket. -/
def clearEdge (p : PocketId) (s : State) : State :=
  match bundleIn s p with
  | none => s
  | some b => if b.state = .ejecting then settle (completeEjection b s) else s

/-- CLEAR_EDGE (R146). -/
def execClearEdge (p : PocketId) (s : State) : Host.Outcome State Fault Refusal :=
  .next (lineEvent (clearEdge p) s)

/-- The eject timer of an EJECTING pocket comes to exceed the eject limit (R147): POCKET-JAM is raised,
once for each ejection. -/
def pocketJam (p : PocketId) (s : State) : State :=
  let t := ejectTimer s p
  if pocketState s p = .ejecting ∧ t.jammed = false then
    takePocketJam p
      (setEjectTimer p
        (if s.stacker.ejectLimit < t.timer.ms then t
         else { t with timer := { ms := s.stacker.ejectLimit + 1, micros := 0 } }) s)
  else s

/-- POCKET_JAM (R147). -/
def execPocketJam (p : PocketId) (s : State) : Host.Outcome State Fault Refusal :=
  .next (lineEvent (pocketJam p) s)

/-! ### Time limits (R60, R110, R140) -/

/-- The hold timer reaches the line hold limit (R60). -/
def holdTimeout (s : State) : State :=
  if s.line.state = .holding ∧ s.line.holdLimit ≠ 0 then
    takeHoldTimeout
      { s with
        line :=
          { s.line with
            holdTimer :=
              if s.line.holdLimit ≤ s.line.holdTimer.ms then s.line.holdTimer
              else { ms := s.line.holdLimit, micros := 0 } } }
  else s

/-- HOLD_TIMEOUT (R60). -/
def execHoldTimeout (s : State) : Host.Outcome State Fault Refusal := .next (lineEvent holdTimeout s)

/-- The expiry test between two marks. Hold ages stand still there (R198): it closes nothing that the
test of the last mark would not have closed, so a limit lowered since then waits for the next mark
(R140, R156), and a bundle that became HELD at that mark, of age 0, is not tested (log entry 6). -/
def holdExpired (s : State) : State := expireFrom (max 1 s.stacker.markLimit) s

/-- HOLD_EXPIRED (R140, R198). -/
def execHoldExpired (s : State) : Host.Outcome State Fault Refusal :=
  .next (lineEvent holdExpired s)

/-- VERIFY_TIMEOUT (R110): the entries whose piece has reached V + 3, as a pitch mark takes them. -/
def execVerifyTimeout (s : State) : Host.Outcome State Fault Refusal :=
  .next (lineEvent verifyTimeouts s)

end Sys2Proof.Machine
end

