-- ==== Sys2Proof/Machine/Links.lean ====
section
/-! DEFINITION. The messages of the two serial links and the edges of the station inputs (sections 5.1,
5.2 and 5.4, R164). -/

namespace Sys2Proof.Machine

/-! ### Messages from the printer (R90, R91, R96, R97) -/

/-- A message from the printer is discarded (R90). -/
def discardMessage (s : State) : State :=
  { s with carrier := { s.carrier with linkErrors := raise top16 s.carrier.linkErrors } }

/-- CARRIER_MESSAGE_DISCARDED (R90). -/
def execCarrierMessageDiscarded (s : State) : Host.Outcome State Fault Refusal :=
  .next (lineEvent discardMessage s)

/-- CARRIER_TRANSMIT_DONE (R90). -/
def execCarrierTransmitDone (s : State) : Host.Outcome State Fault Refusal :=
  .next (lineEvent transmitNext s)

/-- An ACCEPT (R96): it names a job of the list by its piece number. -/
def accept (n : BitVec 16) (s : State) : State :=
  if n ∈ s.carrier.jobs ∧ (pieceNumbered s n).any (fun p => decide (p.job = .sent)) then
    settle (updatePrinterWait (updatePiece n (fun p => { p with job := .accepted }) s))
  else s

/-- ACCEPT (R96). -/
def execAccept (n : BitVec 16) (s : State) : Host.Outcome State Fault Refusal :=
  .next (lineEvent (accept n) s)

/-- A PRINTED (R96). -/
def printed (n : BitVec 16) (s : State) : State :=
  if n ∈ s.carrier.jobs then settle (resolveJob n .printed s) else s

/-- PRINTED (R96). -/
def execPrinted (n : BitVec 16) (s : State) : Host.Outcome State Fault Refusal :=
  .next (lineEvent (printed n) s)

/-- A REFUSE (R97): the last refusal is recorded. -/
def refuse (n : BitVec 16) (reason : Nat) (s : State) : State :=
  if n ∈ s.carrier.jobs then
    settle (resolveJob n .refused
      { s with carrier := { s.carrier with lastRefusal := some { piece := n, reason := reason } } })
  else s

/-- REFUSE (R97). -/
def execRefuse (n : BitVec 16) (reason : Nat) (s : State) : Host.Outcome State Fault Refusal :=
  .next (lineEvent (refuse n reason) s)

/-- The printer ready state is set (R91): becoming READY attempts a dispatch, and a repeat changes
nothing. -/
def setReady (b : Bool) (s : State) : State :=
  let s1 := { s with carrier := { s.carrier with ready := b } }
  if b ∧ s.carrier.ready = false then dispatch s1 else s1

/-- A STATE message (R90, R91): a value that is neither 0 nor 1 is discarded. -/
def printerState (value : Nat) (s : State) : State :=
  match value with
  | 0 => setReady false s
  | 1 => setReady true s
  | _ + 2 => discardMessage s

/-- PRINTER_STATE (R91). -/
def execPrinterState (value : Nat) (s : State) : Host.Outcome State Fault Refusal :=
  .next (lineEvent (printerState value) s)

/-! ### Reads (R106, R108, R109, R111) -/

/-- A read message is discarded (R106). -/
def discardRead (s : State) : State :=
  { s with verify := { s.verify with linkErrors := raise top16 s.verify.linkErrors } }

/-- A read finds the expected-read list empty (R106). -/
def strayRead (s : State) : State :=
  { s with verify := { s.verify with strays := raise top16 s.verify.strays } }

/-- A read message whose fields R106 discards: key 0 without NOREAD, or a corrected count above 15. -/
def readOutOfForm (key : Option Nat) (corrected : Nat) : Bool :=
  key.any (fun k => k == 0) || decide (15 < corrected)

/-- One read judged in the print-quality window (R111). -/
def Verify.countRead (marginal : Bool) (v : Verify) : Verify :=
  let reads := v.reads + 1
  let marginals := if marginal then v.marginals + 1 else v.marginals
  let stands := v.printQuality || decide (8 ≤ marginals)
  if 32 ≤ reads then
    { v with reads := 0, marginals := 0, printQuality := decide (8 ≤ marginals) }
  else { v with reads := reads, marginals := marginals, printQuality := stands }

/-- The next piece (that of the second entry) or the previous piece whose key was read (R108). -/
def slipPiece (s : State) (k : Nat) : Option Piece :=
  let next := s.verify.expected[1]?.bind (pieceNumbered s)
  let previous := s.verify.previous.bind (pieceNumbered s)
  match next.filter (fun p => p.key == k) with
  | some p => some p
  | none => previous.filter (fun p => p.key == k)

/-- The grade of a read for the oldest piece (R108). -/
def gradeOf (s : State) (p : Piece) (key : Option Nat) (corrected : Nat) : Grade :=
  match key with
  | none => .noRead
  | some k =>
    if k = p.key then (if corrected ≤ s.carrier.marginThreshold then .good else .marginal)
    else if (slipPiece s k).isSome then .slip
    else .mismatch

/-- What a grade does to the oldest piece and the line (R108, R109). `other` is the piece whose key was
read. -/
def gradeEffect (g : Grade) (n : BitVec 16) (other : Option Piece) (s : State) : State :=
  match g with
  | .good | .marginal => passStep n .verified s
  | .noRead => recordDefect n .noRead .verify s
  | .mismatch => recordDefect n .keyMismatch .verify s
  | .slip =>
    let s1 := recordDefect n .keyMismatch .verify s
    let s2 := match other with
      | none => s1
      | some q => recordDefect q.number .keyMismatch .verify s1
    takeFault .carrierSlip s2
  | .timeout => s

/-- A read matched to the oldest entry (R108): the verify result is written, the entry leaves, the
print-quality window counts, and the grade takes effect. -/
def judgeRead (p : Piece) (key : Option Nat) (corrected : Nat) (s : State) : State :=
  let g := gradeOf s p key corrected
  let other := key.bind (slipPiece s)
  let s1 := dropExpected p.number
    (updatePiece p.number
      (fun q => { q with verify := some { key := key, corrected := corrected, grade := g } }) s)
  gradeEffect g p.number other
    { s1 with verify := s1.verify.countRead (decide (g = .marginal)) }

/-- A read message (R106, R108). -/
def takeRead (key : Option Nat) (corrected : Nat) (s : State) : State :=
  if readOutOfForm key corrected then discardRead s
  else
    match s.verify.expected.head? with
    | none => strayRead s
    | some n =>
      match pieceNumbered s n with
      | none => s
      | some p => judgeRead p key corrected s

/-- READ (R106, R108). -/
def execRead (key : Option Nat) (corrected : Nat) (s : State) : Host.Outcome State Fault Refusal :=
  .next (lineEvent (takeRead key corrected) s)

/-- A discarded read (R106): a malformed message, or any read that finds the list empty. A read cannot
find a list empty that holds an entry. -/
def readDiscarded (why : ReadDiscard) (s : State) : State :=
  match why with
  | .malformed => discardRead s
  | .emptyList => if s.verify.expected.isEmpty then strayRead s else s

/-- READ_DISCARDED (R106). -/
def execReadDiscarded (why : ReadDiscard) (s : State) : Host.Outcome State Fault Refusal :=
  .next (lineEvent (readDiscarded why) s)

/-! ### Station inputs (R164) -/

/-- The timing unit that watches an input line (table of section 8.1). -/
def edgeUnit (i : EdgeInput) : Nat :=
  match i with
  | .magazine => 1
  | .insert n => n.val + 8
  | .cut => 15

/-- One more edge in a window opened enabled, up to 2 (R164). -/
def OpenWindow.edge (w : OpenWindow) : OpenWindow :=
  if w.enabled then { w with edges := min 2 (w.edges + 1) } else w

/-- A rising edge on a station input line (R164). -/
def stationInputEdge (line : EdgeInput) (s : State) : State :=
  updateUnit (edgeUnit line) (fun t => { t with window := t.window.map OpenWindow.edge }) s

/-- STATION_INPUT_EDGE (R164). -/
def execStationInputEdge (line : EdgeInput) (s : State) : Host.Outcome State Fault Refusal :=
  .next (lineEvent (stationInputEdge line) s)

end Sys2Proof.Machine
end

