-- ==== Sys2Proof/Machine/Records.lean ====
section
/-! DEFINITION. The commands on address records: LOAD, FIND, AMEND and WITHDRAW (sections 1.5 to 1.9). -/

namespace Sys2Proof.Machine

/-! ### LOAD (R4, R11 to R13) -/

/-- One sort key is greater than another: the larger route, or the same route and the larger sequence
(R3). -/
def SortKey.above (a b : SortKey) : Bool :=
  decide (b.route < a.route ∨ (a.route = b.route ∧ b.sequence < a.sequence))

/-- The ORDER check (R11, R12). -/
def Queue.takes (q : Queue) (k : SortKey) : Bool :=
  q.lastKey.all (fun l => k.above l) && q.lastEnded.all (fun e => k.route != e)

/-- The sort key of a LOAD record. -/
def loadKey (r : LoadRecord) : SortKey := { route := r.route, sequence := r.sequence }

/-- The first check of R11 that a record fails, as its cause. -/
def loadCause (r : LoadRecord) (s : State) : Option ResultCode :=
  if !(r.key != 0 && decide (r.route ≤ 999999) && textInForm r.text
      && versionFitted s.geometry r.version) then some .range
  else if (findRecord s r.key).isSome then some .duplicate
  else if !s.queue.takes (loadKey r) then some .order
  else if freeCount s = 0 then some .full
  else none

/-- The address record that LOAD makes (R4). -/
def loadedRecord (p : Planner) (r : LoadRecord) : Record :=
  { key := r.key, route := r.route, sequence := r.sequence, endOfRoute := r.endOfRoute,
    version := r.version, text := splitLines r.text, nominalMass := nominalMassOf p r.version,
    nominalThickness := thicknessOf p r.version, state := .queued, kind := .normal, remakeCount := 0,
    amendCount := 0, planRef := none, bundle := none, withdrawPending := false, lastDefect := none,
    disposition := none }

/-- A record is accepted (R4, R8, R12): allocated, appended at the back of the normal section, and
made the measure of the records after it. -/
def acceptRecord (r : LoadRecord) (s : State) : State :=
  { s with
    store := s.store ++ [loadedRecord s.planner r]
    queue :=
      { s.queue with
        order := s.queue.order ++ [r.key]
        lastKey := some (loadKey r)
        lastEnded := if r.endOfRoute then some r.route else s.queue.lastEnded } }

/-- The records of a frame are examined in order up to the first refusal: the state, the accepted count
and the refusal cause (R11). -/
def loadFrom : List LoadRecord → Nat → State → State × Nat × Option ResultCode
  | [], n, s => (s, n, none)
  | r :: rest, n, s =>
    match loadCause r s with
    | some c => (s, n, some c)
    | none => loadFrom rest (n + 1) (acceptRecord r s)

/-- The effect of LOAD (R11, R13). DESIGN CHOICE (log entry 32): a frame whose record count is 0 or above
8, sent while geometry is unset, is refused with RANGE and not with STATE. -/
def load (rs : List LoadRecord) (s : State) : State :=
  if rs.length < 1 ∨ 8 < rs.length then answer .range (loadPayload 0 none s) s
  else if s.geometry.isSet = false then answer .state (loadPayload 0 none s) s
  else
    let (t, n, cause) := loadFrom rs 0 s
    answer (if cause.isSome then .partialResult else .ok) (loadPayload n cause t) t

/-- LOAD (R11). -/
def execLoad (p : Payload (List LoadRecord)) (s : State) : Host.Outcome State Fault Refusal :=
  .next (hostCommandOr (loadPayload 0 none) p load s)

/-! ### FIND (R18) -/

/-- The effect of FIND (R18): it changes nothing. -/
def find (key : Nat) (s : State) : State :=
  match findRecord s key with
  | none => refuseWith .notFound s
  | some r => answer .ok (findPayload s r) s

/-- FIND (R18). -/
def execFind (p : Payload Nat) (s : State) : Host.Outcome State Fault Refusal :=
  .next (hostCommand p find s)

/-! ### AMEND (R19, R20) -/

/-- The first check of R19 that an AMEND of an allocated record fails, as its answer. -/
def amendCause (f : AmendFields) (r : Record) (s : State) : Option ResultCode :=
  if r.state ≠ .queued then some .state
  else if 4 ≤ r.amendCount then some .limit
  else if !((f.text.isSome || f.version.isSome) && f.text.all textInForm
      && f.version.all (versionFitted s.geometry)) then some .range
  else if f.version.isSome && r.planRef.isSome then some .state
  else none

/-- A record with its text replaced, if one is carried (R20). -/
def Record.withText (t : Option (List Symbol)) (r : Record) : Record :=
  match t with
  | none => r
  | some t => { r with text := splitLines t }

/-- A record with its version replaced and its nominal values computed again, if one is carried
(R20). -/
def Record.withVersion (p : Planner) (v : Option InsertSet) (r : Record) : Record :=
  match v with
  | none => r
  | some v => withNominals p { r with version := v }

/-- An amended record (R20). -/
def amended (p : Planner) (f : AmendFields) (r : Record) : Record :=
  let t := (r.withText f.text).withVersion p f.version
  { t with amendCount := r.amendCount + 1 }

/-- The effect of AMEND (R19, R20). -/
def amend (f : AmendFields) (s : State) : State :=
  match findRecord s f.key with
  | none => refuseWith .notFound s
  | some r =>
    match amendCause f r s with
    | some c => refuseWith c s
    | none => answer .ok [] (updateRecord f.key (amended s.planner f) s)

/-- AMEND (R19). -/
def execAmend (p : Payload AmendFields) (s : State) : Host.Outcome State Fault Refusal :=
  .next (hostCommand p amend s)

/-! ### WITHDRAW (R21 to R24) -/

/-- The OK of a WITHDRAW reports the state the record had (R21). -/
def withdrawn (was : RecordState) (s : State) : State := answer .ok (le 1 was.value) s

/-- WITHDRAW of a QUEUED record (R23): it is freed, and its ordinal loses it. The record is out of the
queue before the hand-offs of R39, so that a close among them finds it no more. -/
def withdrawQueued (r : Record) (s : State) : State :=
  withdrawn .queued (settle (depart r (freeRecord r.key s)))

/-- WITHDRAW of an IN-FLIGHT record before its diverter arrival (R24, R101). -/
def withdrawInFlight (r : Record) (p : Piece) (s : State) : State :=
  withdrawn .inFlight
    (settle (cancelJob p (updateRecord r.key (fun q => { q with withdrawPending := true }) s)))

/-- The effect of WITHDRAW (R21): a second WITHDRAW of a withdraw-pending record changes nothing, and
an IN-FLIGHT record without a piece, which no reachable state holds, is treated as PASSING. -/
def withdraw (key : Nat) (s : State) : State :=
  match findRecord s key with
  | none => refuseWith .notFound s
  | some r =>
    match r.state with
    | .free => refuseWith .notFound s
    | .queued => withdrawQueued r s
    | .inFlight =>
      match pieceOf s key with
      | none => refuseWith .tooLate s
      | some p =>
        if p.stage = .passing then refuseWith .tooLate s
        else if r.withdrawPending then withdrawn .inFlight s
        else withdrawInFlight r p s
    | .stacked | .bundled => refuseWith .tooLate s
    | .exception => refuseWith .state s

/-- WITHDRAW (R21). -/
def execWithdraw (p : Payload Nat) (s : State) : Host.Outcome State Fault Refusal :=
  .next (hostCommand p withdraw s)

end Sys2Proof.Machine
end

