-- ==== Sys2Proof/Machine/Stock.lean ====
section
/-! DEFINITION. The commands on bundles and exceptions: READ BUNDLE, RELEASE BUNDLE, READ EXCEPTIONS and
RELEASE EXCEPTIONS (sections 7.6 and 7.7). -/

namespace Sys2Proof.Machine

/-! ### READ BUNDLE and RELEASE BUNDLE (R150, R151) -/

/-- The bundle that READ BUNDLE names: number 0 is the oldest CLOSED bundle (R150). -/
def namedBundle (s : State) (n : Nat) : Option Bundle :=
  if n = 0 then s.stacker.closedOrder.head?.bind (findBundle s) else findBundle s n

/-- The effect of READ BUNDLE (R150): it changes nothing. -/
def readBundle (f : BundleReadFields) (s : State) : State :=
  match namedBundle s f.bundle with
  | none => refuseWith .notFound s
  | some b =>
    if b.stackedCount < f.first then refuseWith .range s
    else answer .ok (bundlePayload b f.first) s

/-- READ BUNDLE (R150). -/
def execReadBundle (p : Payload BundleReadFields) (s : State) : Host.Outcome State Fault Refusal :=
  .next (hostCommand p readBundle s)

/-- An ordinal that holds a bundle's number becomes RELEASED (R41). -/
def Ordinal.released (n : Nat) (o : Ordinal) : Ordinal :=
  if o.status = .allocated n then { o with status := .released } else o

/-- The release of a CLOSED bundle, in one act (R7, R41, R42, R151). -/
def releaseClosed (b : Bundle) (s : State) : State :=
  let s1 := updateOrdinal { plan := b.plan, ordinal := b.ordinal } (Ordinal.released b.number) s
  let s2 := freeRecords b.members (eraseBundle b.number s1)
  retirementTest b.plan
    { s2 with
      stacker :=
        { s2.stacker with closedOrder := s2.stacker.closedOrder.filter (fun m => m ≠ b.number) } }

/-- The effect of RELEASE BUNDLE (R151): the answer counts the records freed. -/
def releaseBundle (n : Nat) (s : State) : State :=
  match findBundle s n with
  | none => refuseWith .notFound s
  | some b =>
    if b.state = .closed then answer .ok (le 2 b.members.length) (releaseClosed b s)
    else refuseWith .state s

/-- RELEASE BUNDLE (R151). -/
def execReleaseBundle (p : Payload Nat) (s : State) : Host.Outcome State Fault Refusal :=
  .next (hostCommand p releaseBundle s)

/-! ### READ EXCEPTIONS and RELEASE EXCEPTIONS (R153, R154) -/

/-- READ EXCEPTIONS (R153): it changes nothing. -/
def execReadExceptions (p : Payload Unit) (s : State) : Host.Outcome State Fault Refusal :=
  .next (hostCommand p (fun _ t => answer .ok (exceptionsPayload t.stacker.exceptions) t) s)

/-- The effect of RELEASE EXCEPTIONS (R7, R154): the answer counts the entries removed. -/
def releaseExceptions (n : Nat) (s : State) : State :=
  if n < 1 ∨ 128 < n then refuseWith .range s
  else
    let gone := s.stacker.exceptions.take n
    answer .ok (le 1 gone.length)
      (freeRecords (gone.map (fun e => e.key))
        { s with
          stacker := { s.stacker with exceptions := s.stacker.exceptions.drop n } })

/-- RELEASE EXCEPTIONS (R154). -/
def execReleaseExceptions (p : Payload Nat) (s : State) : Host.Outcome State Fault Refusal :=
  .next (hostCommand p releaseExceptions s)

end Sys2Proof.Machine
end

