-- ==== Sys2Proof/Machine/Dispatch.lean ====
section
/-! DEFINITION. The effect of each command and event on everything but the queue of waiting commands:
one arm for each row of spec/opcode_table.json. -/

namespace Sys2Proof.Machine

/-- The effect of a command or event. -/
def exec (i : Instr) (s : State) : Host.Outcome State Fault Refusal :=
  match i with
  | .responseRead clocked => Sys2Proof.Machine.execResponseRead clocked s
  | .frameRefused why => Sys2Proof.Machine.execFrameRefused why s
  | .status p => Sys2Proof.Machine.execStatus p s
  | .identify p => Sys2Proof.Machine.execIdentify p s
  | .setGeometry p => Sys2Proof.Machine.execSetGeometry p s
  | .setProduct p => Sys2Proof.Machine.execSetProduct p s
  | .setInsert p => Sys2Proof.Machine.execSetInsert p s
  | .setBundleLimits p => Sys2Proof.Machine.execSetBundleLimits p s
  | .setRemake p => Sys2Proof.Machine.execSetRemake p s
  | .setPrinter p => Sys2Proof.Machine.execSetPrinter p s
  | .setUnit p => Sys2Proof.Machine.execSetUnit p s
  | .setHold p => Sys2Proof.Machine.execSetHold p s
  | .setAttention p => Sys2Proof.Machine.execSetAttention p s
  | .jobSetup p => Sys2Proof.Machine.execJobSetup p s
  | .jobConfirm p => Sys2Proof.Machine.execJobConfirm p s
  | .jobConfirmCompletion => Sys2Proof.Machine.execJobConfirmCompletion s
  | .run p => Sys2Proof.Machine.execRun p s
  | .pause p => Sys2Proof.Machine.execPause p s
  | .drain p => Sys2Proof.Machine.execDrain p s
  | .clearSetup p => Sys2Proof.Machine.execClearSetup p s
  | .clearConfirm p => Sys2Proof.Machine.execClearConfirm p s
  | .clearConfirmCompletion => Sys2Proof.Machine.execClearConfirmCompletion s
  | .reset p => Sys2Proof.Machine.execReset p s
  | .load p => Sys2Proof.Machine.execLoad p s
  | .find p => Sys2Proof.Machine.execFind p s
  | .amend p => Sys2Proof.Machine.execAmend p s
  | .withdraw p => Sys2Proof.Machine.execWithdraw p s
  | .readBundle p => Sys2Proof.Machine.execReadBundle p s
  | .releaseBundle p => Sys2Proof.Machine.execReleaseBundle p s
  | .readExceptions p => Sys2Proof.Machine.execReadExceptions p s
  | .releaseExceptions p => Sys2Proof.Machine.execReleaseExceptions p s
  | .snapshot p => Sys2Proof.Machine.execSnapshot p s
  | .readSnapshot p => Sys2Proof.Machine.execReadSnapshot p s
  | .pinResetAssert => Sys2Proof.Machine.execPinResetAssert s
  | .pinResetRelease => Sys2Proof.Machine.execPinResetRelease s
  | .encoderForwardCount n => Sys2Proof.Machine.execEncoderForwardCount n s
  | .encoderReverseCount elapsed => Sys2Proof.Machine.execEncoderReverseCount elapsed s
  | .faultInputActive input => Sys2Proof.Machine.execFaultInputActive input s
  | .faultInputInactive input => Sys2Proof.Machine.execFaultInputInactive input s
  | .clearEdge pocket => Sys2Proof.Machine.execClearEdge pocket s
  | .pocketJam pocket => Sys2Proof.Machine.execPocketJam pocket s
  | .holdTimeout => Sys2Proof.Machine.execHoldTimeout s
  | .holdExpired => Sys2Proof.Machine.execHoldExpired s
  | .verifyTimeout => Sys2Proof.Machine.execVerifyTimeout s
  | .accept piece => Sys2Proof.Machine.execAccept piece s
  | .printed piece => Sys2Proof.Machine.execPrinted piece s
  | .refuse piece reason => Sys2Proof.Machine.execRefuse piece reason s
  | .printerState value => Sys2Proof.Machine.execPrinterState value s
  | .carrierMessageDiscarded => Sys2Proof.Machine.execCarrierMessageDiscarded s
  | .carrierTransmitDone => Sys2Proof.Machine.execCarrierTransmitDone s
  | .read key corrected => Sys2Proof.Machine.execRead key corrected s
  | .readDiscarded why => Sys2Proof.Machine.execReadDiscarded why s
  | .stationInputEdge line => Sys2Proof.Machine.execStationInputEdge line s

end Sys2Proof.Machine
end

