-- ==== Sys2Proof/Safety.lean ====
section
/-! DEFINITION. What counts as a safe state, in the terms that the claims use: the relations between
fields of the state that the rules promise in every state. -/

namespace Sys2Proof.Machine

/-- The relations of the line unit (R49, R52, R62): a first cause stands exactly in FAULTED, further
causes only there; a pending pause and a pitch period only while DRIVE-ON is on; DRAINING exactly with
the drain flag among the moving states, and no drain in IDLE. -/
def LineSafe (l : LineUnit) : Prop :=
  (l.first.isSome = true ↔ l.state = .faulted) ∧ (l.state ≠ .faulted → l.further = 0)
    ∧ (l.pause = true → l.state.moving = true) ∧ (l.period.isSome = true → l.state.moving = true)
    ∧ (l.sinceMark.isSome = true → l.state.moving = true)
    ∧ (l.state = .draining → l.drain = true) ∧ (l.state = .running → l.drain = false)
    ∧ (l.state = .idle → l.drain = false)

/-- The in-pitch count lies in 0 to C - 1 between counts (R45). -/
def PhaseSafe (s : State) : Prop := s.line.inPitch < s.geometry.c

/-- The record store holds at most 512 records, no two of one subscriber key (R1). -/
def StoreSafe (s : State) : Prop :=
  (s.store.map (fun r => r.key)).Nodup ∧ s.store.length ≤ Config.storeSlots

/-- The bundle table holds at most 24 records, no two of one number, and the plan table 4 entries
(R32, R75, R132). -/
def BundleSafe (s : State) : Prop :=
  (s.stacker.bundles.map (fun b => b.number)).Nodup
    ∧ s.stacker.bundles.length ≤ Config.bundleSlots ∧ s.planner.plans.length = Config.planSlots

/-- The lead and its adaptation (R93, R103, R104): Lq lies in Lmin to Lmax, the accumulator in 0 to 3,
and the window counts below an evaluation. -/
def LeadSafe (c : Carrier) : Prop :=
  c.lmin ≤ c.lq ∧ c.lq ≤ c.lmax ∧ c.accumulator < 4 ∧ c.windowCount < 16 ∧ c.waits ≤ c.windowCount

/-- The range of a setup latch and of the operation that a job setup begins (R174). -/
def setupInRange (low start : Nat) : Prop := low ≤ 511 ∧ 4 ≤ start ∧ start ≤ 32

/-- The ranges of R27. -/
def ProductSafe (p : Product) : Prop :=
  (1 ≤ p.baseMass ∧ p.baseMass ≤ 2000) ∧ (1 ≤ p.baseThickness ∧ p.baseThickness ≤ 300)
    ∧ p.carrierMass ≤ 50 ∧ p.carrierThickness ≤ 20 ∧ (100 ≤ p.cutLength ∧ p.cutLength ≤ 600)
    ∧ (200 ≤ p.webWidth ∧ p.webWidth ≤ 800) ∧ (10 ≤ p.grammage ∧ p.grammage ≤ 60)

/-- The settings of a timing unit lie in their ranges for a pitch of `c` counts (R160, R161). -/
def UnitSettings.InRange (c : Nat) (u : UnitSettings) : Prop :=
  u.on < c ∧ u.off < c ∧ u.on ≠ u.off ∧ u.latency ≤ 50000

/-- There are 19 timing units, each with its settings, and its pending settings if it has any, in their
ranges (R158, R160, R161). -/
def UnitsSafe (c : Nat) (us : List TimingUnit) : Prop :=
  us.length = Config.unitCount
    ∧ ∀ u ∈ us, u.settings.InRange c ∧ ∀ n, u.pending = some n → n.InRange c

/-- The settings of the carrier unit lie in their ranges (R103). -/
def PrinterSafe (c : Carrier) : Prop :=
  (4 ≤ c.lmin ∧ c.lmin ≤ c.lmax ∧ c.lmax ≤ 32) ∧ (1 ≤ c.upStep ∧ c.upStep ≤ 8)
    ∧ (1 ≤ c.downStep ∧ c.downStep ≤ 8) ∧ (1 ≤ c.waitThreshold ∧ c.waitThreshold ≤ 16)
    ∧ c.marginThreshold ≤ 15

/-- Every setting lies in the range its rule gives it (R16, R25, R27, R28, R29, R31, R50, R60, R103,
R130, R156, R160, R174). -/
def SettingsSafe (s : State) : Prop :=
  (1 ≤ s.planner.nmax ∧ s.planner.nmax ≤ 256) ∧ (500 ≤ s.planner.mmax ∧ s.planner.mmax ≤ 30000)
    ∧ (1 ≤ s.queue.burst ∧ s.queue.burst ≤ 8) ∧ s.diverter.remakeLimit ≤ 7
    ∧ (1 ≤ s.diverter.tolerance ∧ s.diverter.tolerance ≤ 50)
    ∧ PrinterSafe s.carrier
    ∧ (s.geometry.isSet = true → 2 ≤ s.geometry.cOff ∧ s.carrier.lmax ≤ 4 * (s.geometry.cOff - 1))
    ∧ s.line.holdLimit ≤ 60000 ∧ s.stacker.holdLimit ≤ 255
    ∧ (100 ≤ s.stacker.ejectLimit ∧ s.stacker.ejectLimit ≤ 10000)
    ∧ setupInRange s.queue.lowWater s.carrier.start
    ∧ ProductSafe s.planner.product ∧ s.planner.filmMass = filmMassOf s.planner.product
    ∧ (s.planner.inserts.length = 6 ∧ ∀ i ∈ s.planner.inserts, i.mass ≤ 500 ∧ i.thickness ≤ 100)
    ∧ (100 ≤ s.geometry.c ∧ s.geometry.c ≤ 2000) ∧ UnitsSafe s.geometry.c s.units
    ∧ (∀ low start, s.host.latch = .job low start → setupInRange low start)
    ∧ (∀ low start, s.host.operation = some (.jobConfirm low start) → setupInRange low start)

/-! ### The host link, in the terms of the claims -/

/-- The part takes frames: the reset input is not asserted, RDY has risen after its release, and no
transaction begun before the rise is still to end (R183, R184). -/
def TakesFrames (s : State) : Prop := s.inputs.reset = false ∧ s.startup = Startup.over

/-- The part takes host commands: it takes frames, and no long operation is in progress (R187). -/
def Listening (s : State) : Prop := TakesFrames s ∧ s.host.operation = none

/-- The host link after a command has been taken with an answer: the answer is in the slot and the
setup latch is empty (R186, R188). -/
def HostLink.answered (c : ResultCode) (p : List Byte) (h : HostLink) : HostLink :=
  { h with slot := .formed c p, latch := .empty }

/-- The command is refused with a result code and nothing but the answer changes. The payload of the
refusal is left open: the spec names none (log entry 11 says what the model sends). -/
def Refuses (c : ResultCode) (s : State) (o : Host.Outcome State Fault Refusal) : Prop :=
  ∃ payload, o = .next { s with host := s.host.answered c payload }

/-- The commands that a busy part answers with BUSY: every host command but STATUS and RESET (R187). -/
def waitsForConfirm (c : Instr) : Bool :=
  match c with
  | .identify _ | .setGeometry _ | .setProduct _ | .setInsert _ | .setBundleLimits _ | .setRemake _
  | .setPrinter _ | .setUnit _ | .setHold _ | .setAttention _ | .jobSetup _ | .jobConfirm _ | .run _
  | .pause _ | .drain _ | .clearSetup _ | .clearConfirm _ | .load _ | .find _ | .amend _
  | .withdraw _ | .readBundle _ | .releaseBundle _ | .readExceptions _ | .releaseExceptions _
  | .snapshot _ | .readSnapshot _ => true
  | .responseRead _ | .frameRefused _ | .status _ | .reset _ | .jobConfirmCompletion
  | .clearConfirmCompletion | .pinResetAssert | .pinResetRelease | .encoderForwardCount _
  | .encoderReverseCount _ | .faultInputActive _ | .faultInputInactive _ | .clearEdge _
  | .pocketJam _ | .holdTimeout | .holdExpired | .verifyTimeout | .accept _ | .printed _
  | .refuse _ _ | .printerState _ | .carrierMessageDiscarded | .carrierTransmitDone | .read _ _
  | .readDiscarded _ | .stationInputEdge _ => false

/-- The transactions that are command frames or frames that are no command (R184): all but response
reads. -/
def isFrame (c : Instr) : Prop :=
  waitsForConfirm c = true ∨ (∃ p, c = .status p) ∨ (∃ p, c = .reset p) ∨ ∃ why, c = .frameRefused why

/-- A host command whose payload has a wrong length or is out of form (R185, R196). -/
def isMalformed (c : Instr) : Prop :=
  c = .status .malformed ∨ c = .identify .malformed ∨ c = .setGeometry .malformed
    ∨ c = .setProduct .malformed ∨ c = .setInsert .malformed ∨ c = .setBundleLimits .malformed
    ∨ c = .setRemake .malformed ∨ c = .setPrinter .malformed ∨ c = .setUnit .malformed
    ∨ c = .setHold .malformed ∨ c = .setAttention .malformed ∨ c = .jobSetup .malformed
    ∨ c = .jobConfirm .malformed ∨ c = .run .malformed ∨ c = .pause .malformed
    ∨ c = .drain .malformed ∨ c = .clearSetup .malformed ∨ c = .clearConfirm .malformed
    ∨ c = .reset .malformed ∨ c = .load .malformed ∨ c = .find .malformed ∨ c = .amend .malformed
    ∨ c = .withdraw .malformed ∨ c = .readBundle .malformed ∨ c = .releaseBundle .malformed
    ∨ c = .readExceptions .malformed ∨ c = .releaseExceptions .malformed ∨ c = .snapshot .malformed
    ∨ c = .readSnapshot .malformed

/-! ### Conditions of the rules, in the terms of the claims -/

/-- The checks of R50. -/
def GeometryFits (f : GeometryFields) (store : List Record) : Prop :=
  (100 ≤ f.c ∧ f.c ≤ 2000) ∧ 2 ≤ f.cOff
    ∧ (∀ i, i < 6 → f.fitted.getLsbD i = true →
        1 ≤ f.offsets.getD i 0 ∧ f.offsets.getD i 0 ≤ f.cOff - 1)
    ∧ (∀ i j, i < j → j < 6 → f.fitted.getLsbD i = true → f.fitted.getLsbD j = true →
        f.offsets.getD i 0 ≠ f.offsets.getD j 0)
    ∧ f.cOff < f.v ∧ f.v < f.w ∧ f.w < f.x ∧ f.x < f.g ∧ f.g < f.d ∧ f.d < f.s ∧ f.s ≤ 63
    ∧ (∀ r ∈ store, ∀ i, i < 6 → r.version.getLsbD i = true → f.fitted.getLsbD i = true)

/-- The ranges of R27. -/
def ProductFits (f : ProductFields) : Prop :=
  (1 ≤ f.baseMass ∧ f.baseMass ≤ 2000) ∧ (1 ≤ f.baseThickness ∧ f.baseThickness ≤ 300)
    ∧ f.carrierMass ≤ 50 ∧ f.carrierThickness ≤ 20 ∧ (100 ≤ f.cutLength ∧ f.cutLength ≤ 600)
    ∧ (200 ≤ f.webWidth ∧ f.webWidth ≤ 800) ∧ (10 ≤ f.grammage ∧ f.grammage ≤ 60)

/-- The conditions of CLEAR SETUP and CLEAR CONFIRM (R177, R178). -/
def Clearable (s : State) : Prop :=
  (s.line.state = .stopped ∨ s.line.state = .idle) ∧ s.tracking.pieces = []
    ∧ ∀ b ∈ s.stacker.bundles, b.state ≠ .ejecting

/-- The conditions of a drain completion (R57). -/
def Drained (s : State) : Prop :=
  s.tracking.pieces = []
    ∧ (∀ k ∈ s.queue.order, ∀ r, findRecord s k = some r → r.kind ≠ .remake)
    ∧ ∀ b ∈ s.stacker.bundles, b.state ≠ .ejecting

/-- An ordinal that no longer keeps its plan ACTIVE (R42): it is final, and SKIPPED, EMPTIED, RELEASED or
ALLOCATED with its bundle CLOSED. -/
def OrdinalEnds (s : State) (o : Ordinal) : Prop :=
  o.final = true ∧ (o.status = .skipped ∨ o.status = .emptied ∨ o.status = .released
    ∨ ∃ n b, o.status = .allocated n ∧ findBundle s n = some b ∧ b.state = .closed)

/-- A case-4 candidate joins the current ordinal `c` of an OPEN plan, whose bundle is `n` (R37). -/
def JoinsCurrent (s : State) (p : Plan) (r : Record) (c n : Nat) : Prop :=
  p.kind = .openAt c ∧ ∃ o b, p.sizes[c]? = some o ∧ o.status = .allocated n ∧ o.final = false
    ∧ findBundle s n = some b ∧ (b.state = .forming ∨ b.state = .filling)
    ∧ o.count < p.nmax ∧ o.mass + r.nominalMass ≤ p.mmax

/-- No unit has pending settings, as in IDLE and STOPPED (R171, R173). -/
def NonePending (s : State) : Prop := ∀ u ∈ s.units, u.pending = none

end Sys2Proof.Machine
end

