-- ==== Sys2Proof/Certificates/Slice0/Obligations.lean ====
section
/-! DEFINITION. The statements about the part, for the provers. An equation `exec c s = .next t` with
`t` written as an update of `s` says the command's result, that the command completes, and its frame:
whatever the update does not name is as it was. -/

open Sys2Proof Sys2Proof.Machine

/-! ### Steps, completion, and when commands are taken -/

/-- A step takes the command at the front of the queue and runs it with the queue's rest; on an empty
queue a millisecond passes unless the reset input is asserted (log entry 4, the model's choice). -/
def Obligations.StepTakesFrontCommand : Prop :=
  ∀ (c : Instr) (s : State) (rest : List Instr),
    (s.pending = c :: rest → step s = exec c { s with pending := rest })
      ∧ (s.pending = [] → s.inputs.reset = true → step s = .next s)
      ∧ (s.pending = [] → s.inputs.reset = false → step s = .next (passTime 1000 s))

/-- Every command and event ends in a next state (log entry 24: read from the spec by inference) and
leaves the queue of waiting commands, which is the model's own (log entry 25), alone. -/
def Obligations.EveryCommandCompletes : Prop :=
  ∀ (c : Instr) (s : State), ∃ t, exec c s = .next t ∧ t.pending = s.pending

/-- Commands turned away, by a part that takes frames. While a long operation is in progress RDY is low,
and every host command but STATUS and RESET is answered BUSY with an empty payload and has no other
effect, whatever its payload; a malformed STATUS or RESET is refused with RANGE even then (log entry 15,
the model's reading). A payload of wrong length or out of form is refused with RANGE before any check of
the command's own rule: only the answer and, but for STATUS, the emptied latch are left of it. LOAD
answers with accepted count 0, no cause and the free count (log entry 11 says which payload refusals
carry). -/
def Obligations.BusyAndMalformedCommandsAreTurnedAway : Prop :=
  ∀ (c : Instr) (s : State), TakesFrames s →
    (s.host.operation ≠ none → waitsForConfirm c = true →
        rdy s = false ∧ exec c s = .next { s with host := { s.host with slot := .formed .busy [] } })
      ∧ (s.host.operation = none → isMalformed c → c ≠ .load .malformed → c ≠ .status .malformed →
        exec c s = .next { s with host := s.host.answered .range [] })
      ∧ (s.host.operation = none → c = .load .malformed →
        exec c s = .next
          { s with host := s.host.answered .range (le 1 0 ++ le 1 0 ++ le 2 (512 - s.store.length)) })
      ∧ (c = .status .malformed →
        exec c s = .next { s with host := { s.host with slot := .formed .range [] } })
      ∧ (c = .reset .malformed → exec c s = .next { s with host := s.host.answered .range [] })

/-- The assertion of the reset input changes nothing but its level. While it is asserted the outputs
are released, ATTN and RDY are low, and no command or event is taken. The model's choices in this: every
item of state stands until the release, and completions, time limits, the end of a transmission and
station input edges, which R183 does not name, change nothing either (log entries 4 and 10); a response
read and a refused frame are not taken (log entry 15); the levels of GAUGE and of the fault inputs stay
the outside's (log entry 9). While it is not, DRIVE-ON is on in RUNNING and DRAINING
alone, a pocket's EJECT output while its bundle is EJECTING, a PULSE unit's line while a pulse is ACTIVE,
and U16's strobe while its window is OPEN and was opened enabled. -/
def Obligations.AssertedResetInputTakesNoEvent : Prop :=
  (∀ s, exec .pinResetAssert s = .next { s with inputs := { s.inputs with reset := true } })
    ∧ (∀ s : State, s.inputs.reset = true →
      (driveOn s = false ∧ (∀ p, ejectOutput s p = false) ∧ (∀ u, unitOutput s u = false)
          ∧ attn s = false ∧ rdy s = false)
        ∧ (∀ c, (∀ i, c ≠ .encoderForwardCount i) → (∀ f, c ≠ .faultInputActive f) →
            (∀ f, c ≠ .faultInputInactive f) → c ≠ .pinResetRelease → exec c s = .next s)
        ∧ (∀ i, exec (.encoderForwardCount i) s
            = .next { s with inputs := { s.inputs with gauge := i.gauge } })
        ∧ (∀ f, exec (.faultInputActive f) s = .next (setFaultInput f true s))
        ∧ (∀ f, exec (.faultInputInactive f) s = .next (setFaultInput f false s)))
    ∧ ∀ s : State, s.inputs.reset = false →
      (driveOn s = true ↔ s.line.state = .running ∨ s.line.state = .draining)
        ∧ (∀ p, ejectOutput s p = true ↔ ∃ b, bundleIn s p = some b ∧ b.state = .ejecting)
        ∧ ∀ u, unitOutput s u = true ↔ (unitAt s u).pulse ≠ none
            ∨ (u = 16 ∧ ∃ w, (unitAt s u).window = some w ∧ w.enabled = true)

/-- At the release of an asserted reset input every item of state takes its pin reset value, whatever it
was: the stores and lists empty, the line IDLE with its counts 0, geometry unset with C taken as 400,
every setting at its default, the printer NOT-READY with a CANCEL ALL produced, all attention conditions
enabled, and the CLEARED flag clear. RDY rises at most 1 ms after the release; until then, and for the
frame whose transaction began before the rise, frames are discarded. The model's choices: the levels of
the other inputs, the draw counter and the waiting commands are kept (log entries 8 and 9); the message
in transmission before the reset is gone with its queue, the moment of the rise is a free value, and a
release of an input that is not asserted changes nothing (log entry 10). -/
def Obligations.PinResetRestoresResetValues : Prop :=
  (∀ s : State,
    (s.inputs.reset = true → ∃ span : Startup,
      (∀ n, span.rdyIn = some n → 1 ≤ n ∧ n ≤ 1000)
        ∧ exec .pinResetRelease s = .next
          { State.reset with
            inputs := { s.inputs with reset := false }
            startup := span
            draws := s.draws + 1
            pending := s.pending })
    ∧ (s.inputs.reset = false →
      exec .pinResetRelease s = .next s
        ∧ (s.startup.rdyIn ≠ none → rdy s = false ∧ ∀ c, isFrame c → exec c s = .next s)
        ∧ (s.startup.rdyIn = none → s.startup.straddles = true →
          ∀ c, isFrame c → exec c s = .next { s with startup := Startup.over })
        ∧ (s.startup.rdyIn = none → (rdy s = true ↔ s.host.operation = none))
        ∧ ∀ n micros, s.startup.rdyIn = some n → n ≤ micros →
          (passTime micros s).startup = { s.startup with rdyIn := none }))
  ∧ ∀ s : State, s = State.reset →
  (s.store = [] ∧ s.queue.order = [] ∧ s.queue.lastKey = none ∧ s.queue.lastEnded = none
      ∧ s.queue.consecutive = 0 ∧ s.queue.burst = 4 ∧ s.queue.lowWater = 32)
    ∧ (s.planner.plans = [none, none, none, none] ∧ s.planner.nmax = 50 ∧ s.planner.mmax = 10000
      ∧ s.planner.product = Product.mk 100 30 3 1 300 400 20
      ∧ s.planner.filmMass = filmMassOf s.planner.product
      ∧ s.planner.inserts = List.replicate 6 { mass := 0, thickness := 0, required := true })
    ∧ (s.line.state = .idle ∧ s.line.drain = false ∧ s.line.pause = false ∧ s.line.inPitch = 0
      ∧ s.line.backlash = 0 ∧ s.line.pitch = 0 ∧ s.line.period = none ∧ s.line.first = none
      ∧ s.line.further = 0 ∧ s.line.holdTimer.ms = 0 ∧ s.line.holdLimit = 10000
      ∧ s.geometry.isSet = false ∧ s.geometry.c = 400 ∧ s.holds.causes = HoldSet.none)
    ∧ (s.tracking.pieces = [] ∧ s.tracking.counter = 0 ∧ s.tracking.gapCount = 0
      ∧ s.tracking.lastGap = none)
    ∧ (s.carrier.jobs = [] ∧ s.carrier.ready = false ∧ s.carrier.transmitting = some .cancelAll
      ∧ s.carrier.waiting = [] ∧ s.carrier.lq = 12 ∧ s.carrier.start = 12 ∧ s.carrier.accumulator = 0
      ∧ s.carrier.windowCount = 0 ∧ s.carrier.waits = 0 ∧ s.carrier.lmin = 8 ∧ s.carrier.lmax = 32
      ∧ s.carrier.upStep = 2 ∧ s.carrier.downStep = 1 ∧ s.carrier.waitThreshold = 2
      ∧ s.carrier.marginThreshold = 3 ∧ s.carrier.lastRefusal = none ∧ s.carrier.linkErrors = 0)
    ∧ (s.verify.expected = [] ∧ s.verify.previous = none ∧ s.verify.reads = 0
      ∧ s.verify.marginals = 0 ∧ s.verify.printQuality = false ∧ s.verify.linkErrors = 0
      ∧ s.verify.strays = 0)
    ∧ (s.diverter.remakeLimit = 2 ∧ s.diverter.tolerance = 5 ∧ s.diverter.passed = 0
      ∧ s.diverter.claims = 0 ∧ s.diverter.remade = 0 ∧ s.diverter.spoiled = 0
      ∧ s.diverter.withdrawn = 0 ∧ s.diverter.lateMade = 0)
    ∧ (s.stacker.bundles = [] ∧ s.stacker.counter = 1 ∧ s.stacker.closedOrder = []
      ∧ s.stacker.exceptions = [] ∧ s.stacker.request = none ∧ s.stacker.lastReserved = none
      ∧ s.stacker.ejectA.timer.ms = 0 ∧ s.stacker.ejectB.timer.ms = 0 ∧ s.stacker.lateCount = 0
      ∧ s.stacker.lastFreed = none ∧ s.stacker.freedCount = 0 ∧ s.stacker.holdLimit = 24
      ∧ s.stacker.ejectLimit = 3000)
    ∧ (s.units.length = 19 ∧ ∀ u ∈ s.units,
        u.settings = { enable := false, on := 0, off := 50, latency := 0 } ∧ u.pending = none
          ∧ u.ordered = false ∧ u.pulse = none ∧ u.window = none ∧ u.compLimit = false
          ∧ u.advance = 0 ∧ u.effOn = u.settings.on ∧ u.effOff = u.settings.off)
    ∧ (s.host.slot = .empty ∧ s.host.latch = .empty ∧ s.host.attention = 63 ∧ s.host.cleared = false
      ∧ s.host.operation = none ∧ s.host.lineItem = none ∧ s.host.positionItems = []
      ∧ s.host.unitItems = [])

/-! ### The host link -/

/-- A response read clocks out the status byte, the length byte and the payload of a FORMED slot, then
zeros, and empties the slot when it is read whole; an EMPTY or PENDING slot gives zeros and stays; a read
once RDY has risen after a pin reset ends the transaction that began before the rise (log entry 10, the
model's choice). A frame refused with FRAME or UNKNOWN is answered in every state, busy or not (log entry
15), with an empty payload (log entry 11), and empties the latch. -/
def Obligations.ResponseReadsAndRefusedFrames : Prop :=
  ∀ s : State, s.inputs.reset = false →
    let startup := if s.startup.rdyIn = none then Startup.over else s.startup
    (∀ code payload n, s.host.slot = .formed code payload → exec (.responseRead n) s = .next
      { s with
        startup := startup
        host :=
          { s.host with
            clockedOut := (BitVec.ofNat 8 (128 + code.value) :: BitVec.ofNat 8 payload.length ::
              (payload ++ List.replicate n 0#8)).take n
            slot := if payload.length + 2 ≤ n then .empty else s.host.slot } })
    ∧ (∀ n, s.host.slot = .empty ∨ s.host.slot = .pending → exec (.responseRead n) s = .next
      { s with
        startup := startup
        host := { s.host with clockedOut := List.replicate n 0#8 } })
    ∧ (TakesFrames s →
      startup = s.startup
        ∧ exec (.frameRefused .frame) s = .next { s with host := s.host.answered .frame [] }
        ∧ exec (.frameRefused .unknown) s = .next { s with host := s.host.answered .unknown [] })

/-- STATUS is answered in every state, busy or not, changes nothing but the slot, and leaves the setup
latch as it is. Its payload is, byte for byte, the presence byte and the values of the eleven groups of
R189 in their order: each number least significant byte first, each enumeration by the place its rule
gives the value, each absent value as zeros; 141 bytes in all. The model's choices in it: READY is sent
as 0 (log entry 12); the input and output levels are one flag byte each, each optional value keeps its
place, the pockets come A first, each with its state and its bundle, and the widths are
those of log entry 13; the offset of an insert not fitted, and the map while
geometry is unset, are 0 (log entry 14). Empty payload of a refusal: log entry 11. -/
def Obligations.StatusReportsWithoutChange : Prop :=
  (∀ s : State, TakesFrames s →
    let latch : List Byte := match s.host.latch with
      | .empty => [0#8, 0#8, 0#8, 0#8]
      | .job low start => [1#8] ++ le 2 low ++ le 1 start
      | .clear => [2#8, 0#8, 0#8, 0#8]
    let operation : Byte := match s.host.operation with
      | none => 0
      | some (.jobConfirm _ _) => 1
      | some .clearConfirm => 2
    let cause (c : FaultCause) : Nat := [FaultCause.jam, .filmbrk, .guard, .reverse, .overrun,
      .holdTimeout, .carrierSlip, .pocketJam].idxOf c
    let gap (c : GapCause) : Nat := [GapCause.noCandidate, .drainOnly, .exceptionLimit, .planFull,
      .planClosed, .bundleFull].idxOf c
    let held (p : PocketId) : Nat := match bundleIn s p with
      | none => 0
      | some b => if b.state = .held then 2 else if b.state = .ejecting then 3 else 1
    let pocket (p : PocketId) : List Byte :=
      le 1 (held p) ++ le 2 (((bundleIn s p).map (fun b => b.number)).getD 0)
    let ejects (p : PocketId) : Nat := if held p = 3 then 1 else 0
    let presence := le 1 (flagBits [s.line.period.isSome, s.line.first.isSome,
      s.tracking.lastGap.isSome, (bundleIn s .a).isSome, (bundleIn s .b).isSome,
      s.carrier.lastRefusal.isSome, s.stacker.lastFreed.isSome])
    let part := le 1 ([LineState.idle, .stopped, .running, .draining, .holding, .faulted].idxOf
        s.line.state)
      ++ le 1 s.line.drain.toNat ++ le 1 s.line.pause.toNat ++ [operation] ++ latch
      ++ le 1 s.host.cleared.toNat ++ le 1 s.geometry.isSet.toNat
    let line := le 2 s.line.inPitch ++ le 2 s.line.backlash ++ le 4 s.line.pitch.toNat
      ++ le 4 (s.line.period.getD 0)
      ++ le 1 (flagBits [s.holds.causes.printerWait, s.holds.causes.pocketWait])
      ++ le 2 s.line.holdTimer.ms ++ le 1 ((s.line.first.map cause).getD 0)
      ++ le 1 s.line.further.toNat ++ le 1 s.inputs.jam.toNat ++ le 1 s.inputs.filmbrk.toNat
      ++ le 1 s.inputs.guard.toNat
    let normals := ((s.queue.order.filterMap (findRecord s)).filter (fun r => r.kind = .normal)).length
    let standing := flagBits [s.line.first.isSome, !s.stacker.closedOrder.isEmpty,
      !s.stacker.exceptions.isEmpty,
      decide (s.line.state ≠ .idle ∧ s.line.drain = false ∧ normals ≤ s.queue.lowWater),
      s.verify.printQuality, decide (s.host.lineItem ≠ none ∨ s.host.positionItems ≠ []
        ∨ s.host.unitItems ≠ [])]
    let attention := le 1 standing ++ le 1 s.host.attention.toNat
    let records := le 2 (512 - s.store.length) ++ le 2 normals ++ le 2 s.queue.lowWater
    let tracking := le 1 s.tracking.pieces.length ++ le 2 s.tracking.counter.toNat
      ++ le 4 s.tracking.gapCount ++ le 1 ((s.tracking.lastGap.map gap).getD 0)
    let bundles := le 1 s.stacker.bundles.length ++ le 2 s.stacker.counter ++ pocket .a ++ pocket .b
      ++ le 1 (ejects .a) ++ le 1 (ejects .b) ++ le 2 s.stacker.ejectA.timer.ms
      ++ le 2 s.stacker.ejectB.timer.ms ++ le 1 s.stacker.closedOrder.length
      ++ le 1 s.stacker.exceptions.length ++ le 2 s.stacker.lateCount
      ++ (match s.stacker.lastFreed with
        | none => le 2 0 ++ le 4 0 ++ le 1 0
        | some f => le 2 f.bundle ++ le 4 f.route ++ le 1 ([CloseReason.planned, .holdExpired,
            .forced, .drain, .emptied].idxOf f.reason))
      ++ le 2 s.stacker.freedCount
    let carrier := le 1 (if s.carrier.ready = true then 0 else 1) ++ le 1 s.carrier.jobs.length
      ++ le 1 s.carrier.lq ++ le 1 s.carrier.accumulator ++ le 1 s.carrier.start
      ++ le 1 s.carrier.windowCount ++ le 1 s.carrier.waits
      ++ (match s.carrier.lastRefusal with
        | none => le 2 0 ++ le 1 0
        | some r => le 2 r.piece.toNat ++ le 1 r.reason)
      ++ le 2 s.carrier.linkErrors
    let verify := le 1 s.verify.expected.length ++ le 1 s.verify.reads ++ le 1 s.verify.marginals
      ++ le 2 s.verify.linkErrors ++ le 2 s.verify.strays
    let diverter := le 2 s.diverter.passed ++ le 2 s.diverter.claims ++ le 2 s.diverter.remade
      ++ le 2 s.diverter.spoiled ++ le 2 s.diverter.withdrawn ++ le 2 s.diverter.lateMade
    let g := s.geometry
    let settings := le 2 g.c ++ le 1 g.fitted.toNat ++ g.offsets.flatMap (le 1) ++ le 1 g.cOff
      ++ le 1 g.v ++ le 1 g.w ++ le 1 g.x ++ le 1 g.g ++ le 1 g.d ++ le 1 g.s
      ++ le 1 (flagBits ((List.range 6).map (fun i => (insertAt s.planner i).required)))
      ++ le 2 s.planner.nmax ++ le 2 s.planner.mmax ++ le 1 s.queue.burst
      ++ le 1 s.diverter.remakeLimit ++ le 1 s.diverter.tolerance ++ le 2 s.line.holdLimit
      ++ le 1 s.stacker.holdLimit ++ le 2 s.stacker.ejectLimit
    let units := le 3 (flagBits ((List.range 19).map (fun u => (unitAt s u).pending.isSome)))
      ++ le 3 (flagBits ((List.range 19).map (fun u => (unitAt s u).compLimit)))
    exec (.status (.fields ())) s
        = .next { s with host := { s.host with slot := .formed .ok (statusPayload s) } }
      ∧ (s.geometry.offsets.length = 6 → (statusPayload s).length = 141)
      ∧ statusPayload s = presence ++ part ++ line ++ attention ++ records ++ tracking ++ bundles
          ++ carrier ++ verify ++ diverter ++ settings ++ units)
    ∧ (∀ n v k : Nat, (le n v).length = n
      ∧ (k < n → (le n v)[k]? = some (BitVec.ofNat 8 (v / 256 ^ k))))
    ∧ ∀ (flags : List Bool) (k : Nat), (flagBits flags).testBit k = flags.getD k false

/-- IDENTIFY answers with the part code 2630 and revision 1 and changes nothing else (the widths are log
entry 12's). SET ATTENTION makes its byte the attention enable set, and refuses a byte with bit 6 or bit
7 set (with an empty payload: log entry 11). ATTN is asserted exactly while the reset input is not and an
enabled condition stands; the six conditions stand as the table of section 10.3 says. -/
def Obligations.IdentifyAndAttentionFollowTheirRules : Prop :=
  (∀ s : State, Listening s →
     exec (.identify (.fields ())) s
         = .next { s with host := s.host.answered .ok [0x46#8, 0x0A#8, 0x01#8] }
       ∧ ∀ b : Byte,
         (b.getLsbD 6 = false → b.getLsbD 7 = false → exec (.setAttention (.fields b)) s = .next
           { s with host := { s.host with attention := b.truncate 6 }.answered .ok [b] })
         ∧ (b.getLsbD 6 = true ∨ b.getLsbD 7 = true → exec (.setAttention (.fields b)) s = .next
           { s with host := s.host.answered .range [] }))
    ∧ ∀ s : State, attn s = true ↔ s.inputs.reset = false ∧
        ((s.host.attention.getLsbD 0 = true ∧ s.line.first ≠ none)
          ∨ (s.host.attention.getLsbD 1 = true ∧ s.stacker.closedOrder ≠ [])
          ∨ (s.host.attention.getLsbD 2 = true ∧ s.stacker.exceptions ≠ [])
          ∨ (s.host.attention.getLsbD 3 = true ∧ s.line.state ≠ .idle ∧ s.line.drain = false
              ∧ normalCount s ≤ s.queue.lowWater)
          ∨ (s.host.attention.getLsbD 4 = true ∧ s.verify.printQuality = true)
          ∨ (s.host.attention.getLsbD 5 = true ∧ (s.host.lineItem ≠ none ∨ s.host.positionItems ≠ []
              ∨ s.host.unitItems ≠ [])))

/-- SNAPSHOT latches each named item that is not latched as it stands and leaves the latched ones with
their content, the position items in increasing position and the unit items in increasing unit number, or
is refused with RANGE by the checks of section 10.4 and latches nothing (the empty
payload of the refusal is log entry 11's choice, the counts of one byte are log entry 13's). The content
of an item is the state at the latching: of the line, of the piece at a position with its address
record's nominal thickness and its entry in the expected-read list, or of a unit. -/
def Obligations.SnapshotLatchesNamedItems : Prop :=
  (∀ (f : SnapshotFields) (s : State), Listening s →
    let named := (List.range 64).filter (fun n => f.positions.getLsbD n)
    let units := (List.range 24).filter (fun u => f.units.getLsbD u)
    let fits := f.line ≤ 1 ∧ (f.line = 1 ∨ named ≠ [] ∨ units ≠ [])
      ∧ (∀ n ∈ named, s.geometry.isSet = true ∧ n ≤ s.geometry.s) ∧ ∀ u ∈ units, u ≤ 18
    (¬ fits → exec (.snapshot (.fields f)) s = .next { s with host := s.host.answered .range [] })
      ∧ (fits → ∃ h fresh,
        exec (.snapshot (.fields f)) s = .next { s with
          host := h.answered .ok (le 1 fresh ++ le 1 (f.line + named.length + units.length - fresh)) }
        ∧ h = { s.host with
          lineItem := h.lineItem
          positionItems := h.positionItems
          unitItems := h.unitItems }
        ∧ fresh = latchedCount h - latchedCount s.host
        ∧ (h.positionItems.map (fun i => i.position)).Pairwise (fun a b => a < b)
        ∧ (h.unitItems.map (fun i => i.unit)).Pairwise (fun a b => a < b)
        ∧ h.lineItem = s.host.lineItem.or
          (if f.line = 1 then some { line := s.line, causes := s.holds.causes } else none)
        ∧ (∀ n, n < 64 → h.positionItems.find? (fun i => i.position == n)
            = (s.host.positionItems.find? (fun i => i.position == n)).or
              (if n ∈ named then some (positionItemNow s n) else none))
        ∧ (∀ u, u < 19 → h.unitItems.find? (fun i => i.unit == u)
            = (s.host.unitItems.find? (fun i => i.unit == u)).or
              (if u ∈ units then some { unit := u, content := unitAt s u } else none))))
    ∧ (∀ h : HostLink, latchedCount h
      = (if h.lineItem = none then 0 else 1) + h.positionItems.length + h.unitItems.length)
    ∧ ∀ (s : State) (n : Nat),
      (pieceAt s n = none → positionItemNow s n
        = { position := n, expectedCount := s.verify.expected.length, entryHeld := false,
            occupant := none })
      ∧ ∀ p, pieceAt s n = some p → positionItemNow s n
        = { position := n, expectedCount := s.verify.expected.length,
            entryHeld := decide (p.number ∈ s.verify.expected),
            occupant := some
              { piece := p
                position := n
                nominalThickness :=
                  ((findRecord s p.key).map (fun r => r.nominalThickness)).getD 0 } }

/-- READ SNAPSHOT puts the latched items into the response in their order (the line, the positions, the
units) for as long as the next fits whole in the 248 bytes after the head, unlatches exactly those, and
keeps the rest in order. Each item is its kind, its index, the length of what follows, and the content
that section 10.6 lays out for it; bit 4 of a WINDOW unit's item is U16's strobe level and 0 for the
others (log entry 13), an order not yet begun is reported ORDERED though an earlier pulse is active (log
entry 18), and states, causes and stages go by the number that log entry 12 gives. -/
def Obligations.ReadSnapshotReturnsAndUnlatches : Prop :=
  let item (kind index : Nat) (content : List Byte) : List Byte :=
    le 1 kind ++ le 1 index ++ le 1 content.length ++ content
  let cause (c : FaultCause) : Nat := [FaultCause.jam, .filmbrk, .guard, .reverse, .overrun,
    .holdTimeout, .carrierSlip, .pocketJam].idxOf c
  let lineBytes (i : LineItem) : List Byte :=
    le 4 i.line.pitch.toNat ++ le 2 i.line.inPitch ++ le 2 i.line.backlash
      ++ le 4 (i.line.period.getD 0)
      ++ le 1 ([LineState.idle, .stopped, .running, .draining, .holding, .faulted].idxOf i.line.state)
      ++ le 1 (flagBits [i.line.drain, i.line.pause, i.line.period.isSome, i.line.first.isSome])
      ++ le 1 (flagBits [i.causes.printerWait, i.causes.pocketWait]) ++ le 2 i.line.holdTimer.ms
      ++ le 1 ((i.line.first.map cause).getD 0) ++ le 1 i.line.further.toNat
  let defectBytes (d : Defect) : List Byte :=
    le 1 ([DefectCause.magDouble, .insertMiss, .insertDouble, .noPrint, .noRead, .keyMismatch,
        .wrapAbort, .cutFault, .thickLow, .thickHigh].idxOf d.cause + 1)
      ++ le 1 ([DefectStation.magazine, .insert 0, .insert 1, .insert 2, .insert 3, .insert 4,
        .insert 5, .carrier, .verify, .wrap, .cut, .gauge].idxOf d.station)
  let pieceBytes (r : PieceReadout) : List Byte :=
    let p := r.piece
    let noread : Bool := match p.verify with
      | none => false
      | some v => v.key.isNone
    le 1 (flagBits [p.verify.isSome, p.thickness.isSome])
      ++ le 1 (flagBits [p.remake, p.claim, noread])
      ++ le 2 p.number.toNat ++ le 4 p.birthPitch.toNat ++ le 4 p.key ++ le 1 r.position
      ++ le 1 p.version.toNat ++ le 1 p.delivered.toNat
      ++ le 1 ([Stage.called, .fed, .collating, .carried, .verified, .wrapped, .cut, .gauged,
        .passing].idxOf p.stage)
      ++ le 1 ([JobState.none, .due, .sent, .accepted, .printed, .refused, .cancelled].idxOf p.job)
      ++ le 1 p.defects.length ++ (p.defects.flatMap defectBytes ++ List.replicate 8 0#8).take 8
      ++ le 1 p.overflow
      ++ (match p.verify with
        | none => le 4 0 ++ le 1 0 ++ le 1 0
        | some v => le 4 (v.key.getD 0) ++ le 1 v.corrected
          ++ le 1 ([Grade.good, .marginal, .noRead, .slip, .mismatch, .timeout].idxOf v.grade))
      ++ le 2 (p.thickness.getD 0) ++ le 2 p.bundle ++ le 2 r.nominalThickness
  let positionBytes (i : PositionItem) : List Byte :=
    match i.occupant with
    | none => le 1 0 ++ le 1 i.expectedCount ++ le 1 i.entryHeld.toNat
    | some r => le 1 1 ++ le 1 i.expectedCount ++ le 1 i.entryHeld.toNat ++ pieceBytes r
  let pendingBytes (n : Option UnitSettings) : List Byte :=
    match n with
    | none => le 2 0 ++ le 2 0 ++ le 2 0
    | some x => le 2 x.on ++ le 2 x.off ++ le 2 x.latency
  let unitContent (u : Nat) (t : TimingUnit) : List Byte :=
    let opened : Bool := match t.window with
      | none => false
      | some w => w.enabled
    let level : Bool := if u = 16 then t.pulse.isSome || opened else t.pulse.isSome
    let activity : Nat := if isPulse u = true then
        (if t.ordered = true then 1 else if t.pulse ≠ none then 2 else 0)
      else if t.window = none then 0 else 1
    let ends : Nat := if isPulse u = true then t.pulse.getD 0
      else ((t.window.map (fun w => w.close)).getD 0)
    le 1 (if isPulse u = true then 0 else 1)
      ++ le 1 (flagBits [t.settings.enable, t.pending.isSome,
        ((t.pending.map (fun x => x.enable)).getD false), t.compLimit, level, opened])
      ++ le 2 t.settings.on ++ le 2 t.settings.off ++ le 2 t.settings.latency
      ++ pendingBytes t.pending ++ le 2 t.advance ++ le 2 t.effOn ++ le 2 t.effOff
      ++ le 1 activity ++ le 2 ends ++ le 4 ((t.window.map (fun w => w.pitch.toNat)).getD 0)
      ++ le 1 ((t.window.map (fun w => w.edges)).getD 0)
  (∀ s : State, Listening s → ∃ h items,
    exec (.readSnapshot (.fields ())) s = .next
        { s with host := h.answered .ok (le 1 items.length ++ le 1 (latchedCount h) ++ items.flatten) }
      ∧ h = { s.host with
        lineItem := h.lineItem
        positionItems := h.positionItems
        unitItems := h.unitItems }
      ∧ latchedBytes s.host = items ++ latchedBytes h
      ∧ latchedCount h = latchedCount s.host - items.length
      ∧ h.positionItems <:+ s.host.positionItems ∧ h.unitItems <:+ s.host.unitItems
      ∧ items.flatten.length ≤ 248
      ∧ (∀ b rest, latchedBytes h = b :: rest → 248 < items.flatten.length + b.length))
    ∧ (∀ h : HostLink, latchedBytes h = h.lineItem.toList.map (fun i => item 1 0 (lineBytes i))
      ++ h.positionItems.map (fun i => item 2 i.position (positionBytes i))
      ++ h.unitItems.map (fun i => item 3 i.unit (unitContent i.unit i.content)))
    ∧ (∀ i, (lineBytes i).length = 19) ∧ (∀ r, (pieceBytes r).length = 39)
    ∧ ∀ u t, (unitContent u t).length = 28

/-! ### Frames and messages -/

/-- Every transaction that asks for a well-formed command decodes to that command, whatever its
operands: no bit of a payload is dropped or moved. -/
def Obligations.FramesDecodeToTheirCommand : Prop :=
  ∀ (i : Instr) (b : List Byte), i.wf = true → encodeFrame i = some b → decodeFrame b = some i

/-! ### Settings -/

/-- SET GEOMETRY outside IDLE is refused with STATE; in IDLE it is refused with RANGE when a check of
section 3.3 fails, and else replaces the whole map and C, lowers the lead range to the new carrier
offset, and, when C differs, sets the in-pitch and backlash counts to 0 and brings the units within it:
a phase at or above the new C becomes C - 1, and of two phases that this would make equal the lower
becomes C - 2; orders, pulses and windows are dropped, and the window of the pitch in progress counts as
not yet opened (log entry 31, the model's choice).
The empty payload of the refusals is log entry 11's choice, and the 0 answered for the offset of an
insert that is not fitted log entry 14's. -/
def Obligations.SetGeometryReplacesMap : Prop :=
  (∀ (f : GeometryFields) (s : State), Listening s →
    (s.line.state ≠ .idle →
        exec (.setGeometry (.fields f)) s = .next { s with host := s.host.answered .state [] })
      ∧ (s.line.state = .idle → ¬ GeometryFits f s.store →
        exec (.setGeometry (.fields f)) s = .next { s with host := s.host.answered .range [] })
      ∧ (s.line.state = .idle → GeometryFits f s.store →
        exec (.setGeometry (.fields f)) s = .next
          { s with
            geometry := geometryOf f
            carrier :=
              { s.carrier with
                lmin := min (min 32 (4 * (f.cOff - 1))) s.carrier.lmin
                lmax := min (min 32 (4 * (f.cOff - 1))) s.carrier.lmax
                lq := min (min 32 (4 * (f.cOff - 1))) s.carrier.lq }
            line :=
              { s.line with
                inPitch := if f.c = s.geometry.c then s.line.inPitch else 0
                backlash := if f.c = s.geometry.c then s.line.backlash else 0 }
            units := if f.c = s.geometry.c then s.units else s.units.map (TimingUnit.atNewC f.c)
            host := s.host.answered .ok (geometryBytes (geometryOf f)) })
      ∧ geometryOf f =
        { isSet := true
          c := f.c
          fitted := f.fitted
          offsets := (geometryOf f).offsets
          cOff := f.cOff
          v := f.v
          w := f.w
          x := f.x
          g := f.g
          d := f.d
          s := f.s }
      ∧ ∀ i, i < 6 → insertOffset (geometryOf f) i
          = if f.fitted.getLsbD i then some (f.offsets.getD i 0) else none)
    ∧ ∀ (c : Nat) (t : TimingUnit), 2 ≤ c → t.settings.on ≠ t.settings.off → t.pending = none →
      let apart := t.settings.on < c - 1 ∨ t.settings.off < c - 1
      let on := if apart then min (c - 1) t.settings.on
        else if t.settings.on < t.settings.off then c - 2 else c - 1
      let off := if apart then min (c - 1) t.settings.off
        else if t.settings.on < t.settings.off then c - 1 else c - 2
      TimingUnit.atNewC c t =
        { t with
          settings := { t.settings with on := on, off := off }
          advance := 0
          effOn := on
          effOff := off
          compLimit := false
          ordered := false
          pulse := none
          window := none
          opened := false }

/-- R27. SET PRODUCT outside IDLE is refused with STATE, out of range with RANGE, each with nothing
changed; else all seven settings are replaced, the film mass is computed again, and the nominal values
of every QUEUED record with it. Resets and confirms keep the settings, but for pin reset. -/
def Obligations.SetProductReplacesSettings : Prop :=
  (∀ (f : ProductFields) (s : State), Listening s →
    (s.line.state ≠ .idle →
        Refuses .state s (exec (.setProduct (.fields f)) s))
      ∧ (s.line.state = .idle → ¬ ProductFits f →
        Refuses .range s (exec (.setProduct (.fields f)) s))
      ∧ (s.line.state = .idle → ProductFits f →
        let planner :=
          { s.planner with
            product := Product.mk f.baseMass f.baseThickness f.carrierMass f.carrierThickness
              f.cutLength f.webWidth f.grammage
            filmMass := (f.cutLength * f.webWidth * f.grammage + 500000) / 1000000 }
        exec (.setProduct (.fields f)) s = .next
          { s with
            planner := planner
            store := s.store.map (fun r => if r.state = .queued then
              { r with
                nominalMass := nominalMassOf planner r.version
                nominalThickness := thicknessOf planner r.version } else r)
            host := s.host.answered .ok (productBytes f) }))
    ∧ State.reset.planner.product = Product.mk 100 30 3 1 300 400 20
    ∧ ∀ s t : State,
      (exec (.reset (.fields ())) s = .next t ∨ exec .clearConfirmCompletion s = .next t
        ∨ exec .jobConfirmCompletion s = .next t) →
      t.planner.product = s.planner.product ∧ t.planner.filmMass = s.planner.filmMass

/-- R28. SET INSERT outside IDLE is refused with STATE; an insert number outside 1 to 6 or a value out
of range with RANGE; else the three values of the named insert are replaced, fitted or not, and the
nominal values of every QUEUED record are computed again. Resets and confirms keep the settings, but for
pin reset, which leaves every insert with mass 0 and thickness 0. -/
def Obligations.SetInsertReplacesSettings : Prop :=
  (∀ (f : InsertFields) (s : State), Listening s →
    let fits := (1 ≤ f.number ∧ f.number ≤ 6) ∧ f.mass ≤ 500 ∧ f.thickness ≤ 100
    let planner :=
      { s.planner with
        inserts :=
          s.planner.inserts.set (f.number - 1) (InsertSettings.mk f.mass f.thickness f.required) }
    (s.line.state ≠ .idle →
        Refuses .state s (exec (.setInsert (.fields f)) s))
      ∧ (s.line.state = .idle → ¬ fits →
        Refuses .range s (exec (.setInsert (.fields f)) s))
      ∧ (s.line.state = .idle → fits →
        exec (.setInsert (.fields f)) s = .next
          { s with
            planner := planner
            store := s.store.map (fun r => if r.state = .queued then
              { r with
                nominalMass := nominalMassOf planner r.version
                nominalThickness := thicknessOf planner r.version } else r)
            host := s.host.answered .ok (insertBytes f) }))
    ∧ State.reset.planner.inserts = List.replicate 6 (InsertSettings.mk 0 0 true)
    ∧ ∀ s t : State,
      (exec (.reset (.fields ())) s = .next t ∨ exec .clearConfirmCompletion s = .next t
        ∨ exec .jobConfirmCompletion s = .next t) →
      t.planner.inserts = s.planner.inserts

/-- R31. SET BUNDLE LIMITS in IDLE or STOPPED converts and replaces the limits and answers with the
values used; an Nmax of 0 stands for 256 and is no clamp. In any other state it is refused with STATE.
Plans made afterwards capture the limits in force, those in the table keep theirs, and resets and
confirms keep the limits, but for pin reset. -/
def Obligations.SetBundleLimitsConvertsLimits : Prop :=
  (∀ (f : BundleLimitFields) (s : State), Listening s →
    let nmax := if f.nmax = 0 ∨ 257 ≤ f.nmax then 256 else f.nmax
    let mmax := if f.mmax < 500 then 500 else if 30000 < f.mmax then 30000 else f.mmax
    let clamped := 257 ≤ f.nmax ∨ f.mmax < 500 ∨ 30000 < f.mmax
    ((s.line.state = .idle ∨ s.line.state = .stopped) →
        exec (.setBundleLimits (.fields f)) s = .next
          { s with
            planner := { s.planner with nmax := nmax, mmax := mmax }
            host := s.host.answered (if clamped then .okClamped else .ok) (le 2 nmax ++ le 2 mmax) })
      ∧ (s.line.state ≠ .idle → s.line.state ≠ .stopped →
        Refuses .state s (exec (.setBundleLimits (.fields f)) s)))
    ∧ (∀ (i : Nat) (r : Record) (s : State), i < s.planner.plans.length →
      ∃ p, planAt (makePlan i r s) i = some p ∧ p.nmax = s.planner.nmax ∧ p.mmax = s.planner.mmax)
    ∧ (State.reset.planner.nmax = 50 ∧ State.reset.planner.mmax = 10000)
    ∧ ∀ s t : State,
      (exec (.reset (.fields ())) s = .next t ∨ exec .clearConfirmCompletion s = .next t
        ∨ exec .jobConfirmCompletion s = .next t) →
      t.planner.nmax = s.planner.nmax ∧ t.planner.mmax = s.planner.mmax

/-- SET REMAKE, in every line state, converts and replaces the burst limit, the remake limit and the
gauge tolerance, and changes no record and not the consecutive-remake birth count. -/
def Obligations.SetRemakeConvertsSettings : Prop :=
  ∀ (f : RemakeFields) (s : State), Listening s →
    let burst := if f.burst = 0 then 1 else if 8 < f.burst then 8 else f.burst
    let limit := if 7 < f.remakeLimit then 7 else f.remakeLimit
    let tolerance := if f.tolerance = 0 then 1 else if 50 < f.tolerance then 50 else f.tolerance
    let clamped := burst ≠ f.burst ∨ limit ≠ f.remakeLimit ∨ tolerance ≠ f.tolerance
    exec (.setRemake (.fields f)) s = .next
      { s with
        queue := { s.queue with burst := burst }
        diverter := { s.diverter with remakeLimit := limit, tolerance := tolerance }
        host := s.host.answered (if clamped then .okClamped else .ok)
          (le 1 burst ++ le 1 limit ++ le 1 tolerance) }

/-- SET PRINTER, in every line state, is refused with RANGE when the carried Lmin exceeds the carried
Lmax (with an empty payload: log entry 11); else its six values are converted and replaced and Lq is
brought into the new range at once. -/
def Obligations.SetPrinterConvertsSettings : Prop :=
  ∀ (f : PrinterFields) (s : State), Listening s →
    let top := if s.geometry.isSet = true then min 32 (4 * (s.geometry.cOff - 1)) else 32
    let low := min top (max 4 f.lmin)
    let high := min top (max 4 f.lmax)
    let up := min 8 (max 1 f.upStep)
    let down := min 8 (max 1 f.downStep)
    let wait := min 16 (max 1 f.waitThreshold)
    let margin := min 15 f.marginThreshold
    let converted := low ≠ f.lmin ∨ high ≠ f.lmax ∨ up ≠ f.upStep ∨ down ≠ f.downStep
      ∨ wait ≠ f.waitThreshold ∨ margin ≠ f.marginThreshold
    (f.lmax < f.lmin →
        exec (.setPrinter (.fields f)) s = .next { s with host := s.host.answered .range [] })
      ∧ (f.lmin ≤ f.lmax →
        exec (.setPrinter (.fields f)) s = .next
          { s with
            carrier :=
              { s.carrier with
                lmin := low
                lmax := high
                upStep := up
                downStep := down
                waitThreshold := wait
                marginThreshold := margin
                lq := min high (max low s.carrier.lq) }
            host := s.host.answered (if converted then .okClamped else .ok)
              (le 1 low ++ le 1 high ++ le 1 up ++ le 1 down ++ le 1 wait ++ le 1 margin) })

/-- SET UNIT is refused with RANGE for a unit above 18 and for equal phases used; at rest it takes effect
at once; in any other state the values used become the unit's pending settings. C is 400 while geometry
is unset, as after reset. The effect at once: the settings and effective phases change; an order not yet
begun is dropped by a disabled unit, waits for an on phase above the in-pitch count, and else begins in
the act; a window of this pitch not yet opened opens in the act at an open phase not above the in-pitch
count, which closes one still OPEN; nothing else of the part changes. A window of U16 that closes in the
act samples GAUGE, whose level between two counts is a free value (log entry 26, the model's choice). -/
def Obligations.SetUnitWritesOrPends : Prop :=
  (∀ (f : UnitFields) (s : State), Listening s → 0 < s.geometry.c →
    let on := if f.on < s.geometry.c then f.on else s.geometry.c - 1
    let off := if f.off < s.geometry.c then f.off else s.geometry.c - 1
    let latency := if isPulse f.unit then min 50000 f.latency else 0
    let settings := UnitSettings.mk f.enable on off latency
    let code := if on ≠ f.on ∨ off ≠ f.off ∨ latency ≠ f.latency then ResultCode.okClamped else .ok
    let bytes := le 1 f.unit ++ flag f.enable ++ le 2 on ++ le 2 off ++ le 2 latency
    (18 < f.unit ∨ on = off →
        Refuses .range s (exec (.setUnit (.fields f)) s))
      ∧ (f.unit ≤ 18 → on ≠ off → s.line.state ≠ .idle → s.line.state ≠ .stopped →
        exec (.setUnit (.fields f)) s = .next
          { s with
            units := s.units.modify f.unit (fun t => { t with pending := some settings })
            host := s.host.answered code (bytes ++ le 1 1) })
      ∧ (f.unit ≤ 18 → on ≠ off → s.line.state = .idle ∨ s.line.state = .stopped →
        exec (.setUnit (.fields f)) s = .next
          { writeUnit f.unit settings
              (freshGauge (f.unit == 16) { s with host := { s.host with latch := .empty } }) with
            host := s.host.answered code (bytes ++ le 1 0) })
      ∧ (∀ sampled, ∃ g d, freshGauge sampled s
        = { s with inputs := { s.inputs with gauge := g }, draws := d })
      ∧ (on ≠ off →
        let written (act : TimingUnit → TimingUnit) : State :=
          { s with
            units := s.units.modify f.unit (fun t => act
              { t with
                settings := settings
                pending := none
                advance := 0
                effOn := on
                effOff := off
                compLimit := false }) }
        (isPulse f.unit = true →
          ((unitAt s f.unit).ordered = false → writeUnit f.unit settings s = written id)
          ∧ ((unitAt s f.unit).ordered = true →
            (f.enable = false →
              writeUnit f.unit settings s = written (fun t => { t with ordered := false }))
            ∧ (f.enable = true → s.line.inPitch < on → writeUnit f.unit settings s = written id)
            ∧ (f.enable = true → on ≤ s.line.inPitch → writeUnit f.unit settings s
              = written (fun t => { t with ordered := false, pulse := some off }))))
        ∧ (isPulse f.unit = false →
          ((unitAt s f.unit).opened = true ∨ s.line.inPitch < on →
            writeUnit f.unit settings s = written id)
          ∧ (f.unit < s.units.length → (unitAt s f.unit).opened = false → on ≤ s.line.inPitch →
            writeUnit f.unit settings s = openWindow f.unit (written id)))))
    ∧ State.reset.geometry.isSet = false ∧ State.reset.geometry.c = 400

/-- SET HOLD, in every line state, converts and replaces the line hold limit, the bundle hold limit and
the eject limit. With no timer running that is all; a hold timer already at a new limit that is not 0
times out when the command is taken. -/
def Obligations.SetHoldReplacesLimits : Prop :=
  ∀ (f : HoldFields) (s : State), Listening s →
    let line := min 60000 f.lineLimit
    let bundle := min 255 f.bundleLimit
    let eject := min 10000 (max 100 f.ejectLimit)
    let code := if line ≠ f.lineLimit ∨ bundle ≠ f.bundleLimit ∨ eject ≠ f.ejectLimit then
      ResultCode.okClamped else .ok
    let host := s.host.answered code (le 2 line ++ le 2 bundle ++ le 2 eject)
    let t :=
      { s with
        line := { s.line with holdLimit := line }
        stacker := { s.stacker with holdLimit := bundle, ejectLimit := eject }
        host := { s.host with latch := .empty } }
    exec (.setHold (.fields f)) s = .next { passTime 0 t with host := host }
      ∧ (s.line.state ≠ .holding → anyEjecting s = false →
        exec (.setHold (.fields f)) s = .next { t with host := host })
      ∧ (s.line.state = .holding → anyEjecting s = false → line ≠ 0 → line ≤ s.line.holdTimer.ms →
        ∃ u, exec (.setHold (.fields f)) s = .next u ∧ u.line.state = .faulted
          ∧ u.line.first = some .holdTimeout ∧ u.holds = s.holds ∧ u.tracking = s.tracking)

/-! ### Jobs and line commands -/

/-- R174. JOB SETUP outside IDLE or with geometry unset is refused with STATE and leaves the latch
empty; else both values are converted, placed in the latch and answered, and nothing is in force until
the confirm, at which the low-water value and the start value take effect and Lq the start value brought
into Lmin to Lmax. -/
def Obligations.JobSetupFillsLatch : Prop :=
  (∀ (f : JobFields) (s : State), Listening s →
    let low := if 511 < f.lowWater then 511 else f.lowWater
    let start := if f.start < 4 then 4 else if 32 < f.start then 32 else f.start
    let code := if low ≠ f.lowWater ∨ start ≠ f.start then ResultCode.okClamped else .ok
    (s.line.state ≠ .idle ∨ s.geometry.isSet = false →
        Refuses .state s (exec (.jobSetup (.fields f)) s))
      ∧ (s.line.state = .idle → s.geometry.isSet = true →
        exec (.jobSetup (.fields f)) s = .next
          { s with
            host :=
              { s.host with slot := .formed code (le 2 low ++ le 1 start), latch := .job low start } }))
    ∧ ∀ (s : State) (low start : Nat), s.inputs.reset = false →
      s.host.operation = some (.jobConfirm low start) →
      ∃ t, exec .jobConfirmCompletion s = .next t ∧ t.queue.lowWater = low ∧ t.carrier.start = start
        ∧ t.carrier.lq = min s.carrier.lmax (max s.carrier.lmin start)

/-- JOB CONFIRM begins on a job setup, CLEAR CONFIRM on a clear setup whose conditions still hold; the
slot is then PENDING, the latch empty and the part busy, and nothing else changes. On any other latch
content the answer is SEQUENCE, and on failed conditions STATE, with the latch emptied and an empty
payload (log entry 11). -/
def Obligations.ConfirmsBeginOnTheirSetup : Prop :=
  ∀ s : State, Listening s →
    (∀ low start, s.host.latch = .job low start →
        exec (.jobConfirm (.fields ())) s = .next
            { s with
              host :=
                { s.host with
                  slot := .pending
                  latch := .empty
                  operation := some (.jobConfirm low start) } }
          ∧ exec (.clearConfirm (.fields ())) s
            = .next { s with host := s.host.answered .sequence [] })
      ∧ (s.host.latch = .empty →
        exec (.jobConfirm (.fields ())) s = .next { s with host := s.host.answered .sequence [] }
          ∧ exec (.clearConfirm (.fields ())) s
            = .next { s with host := s.host.answered .sequence [] })
      ∧ (s.host.latch = .clear →
        exec (.jobConfirm (.fields ())) s = .next { s with host := s.host.answered .sequence [] }
          ∧ (¬ Clearable s → exec (.clearConfirm (.fields ())) s
            = .next { s with host := s.host.answered .state [] })
          ∧ (Clearable s → exec (.clearConfirm (.fields ())) s = .next
            { s with
              host :=
                { s.host with
                  slot := .pending
                  latch := .empty
                  operation := some .clearConfirm } }))

/-- The completion of JOB CONFIRM, in one act: the line goes to STOPPED with its counts at 0, every block
takes its JOB CONFIRM column, the records and the queue stay in their order without plan references, and
the settings, the snapshots and the attention set stay. (Log entry 17 says that bundle numbers and the
tracking table are emptied with it, so that a window that stays open belongs to no piece any more; and
log entry 21 that nothing happens with no JOB CONFIRM in progress.) No unit has pending settings in IDLE
(R173), so the statement is about such states. -/
def Obligations.JobConfirmCompletionBeginsJob : Prop :=
  ∀ s : State, s.inputs.reset = false →
    (∀ low start, s.host.operation = some (.jobConfirm low start) → s.line.state = .idle →
      NonePending s → exec .jobConfirmCompletion s = .next
        { s with
          store := s.store.map (fun r => { r with planRef := none, bundle := none })
          queue := { s.queue with consecutive := 0, lowWater := low }
          planner := { s.planner with plans := [none, none, none, none] }
          line :=
            { s.line with
              state := .stopped
              drain := false
              pause := false
              pitch := 0
              period := none
              sinceMark := none
              holdTimer := MsTimer.zero
              first := none
              further := 0 }
          holds := { causes := HoldSet.none, raised := HoldSet.none }
          tracking := { pieces := [], counter := 0, gapCount := 0, lastGap := none }
          carrier :=
            { s.carrier with
              jobs := []
              start := start
              lq := min s.carrier.lmax (max s.carrier.lmin start)
              accumulator := 0
              windowCount := 0
              waits := 0
              lastRefusal := none
              linkErrors := 0 }
          verify := Verify.mk [] none 0 0 false 0 0
          diverter := Diverter.mk s.diverter.remakeLimit s.diverter.tolerance 0 0 0 0 0 0
          stacker :=
            { s.stacker with
              bundles := []
              counter := 1
              ejectA := EjectTimer.stopped
              ejectB := EjectTimer.stopped
              lastReserved := none
              request := none
              closedOrder := []
              exceptions := []
              lateCount := 0
              lastFreed := none
              freedCount := 0 }
          units := s.units.map (fun u =>
            { u with
              advance := 0
              compLimit := false
              window := u.window.map (fun w => { w with piece := none }) })
          host := { s.host with slot := .formed .ok [], operation := none, cleared := false } })
      ∧ ((∀ low start, s.host.operation ≠ some (.jobConfirm low start)) →
        exec .jobConfirmCompletion s = .next s)

/-- The completion of CLEAR CONFIRM, in one act, from STOPPED, IDLE or FAULTED: the line goes to IDLE,
every record is freed, the queue, plans, bundles, pockets, closed order and exceptions are emptied,
CANCEL ALL is produced, and the answer is OK with the free count 512; the counts that CLEAR CONFIRM
keeps, the settings, orders, pulses and windows stay. (Log entry 17: the tracking table is emptied with
it, so that a window that stays open belongs to no piece any more; log entry 21: nothing happens with no
CLEAR CONFIRM in progress.) No unit has pending settings in STOPPED or IDLE (R173), so the statement is
about such states. -/
def Obligations.ClearConfirmCompletionClears : Prop :=
  ∀ s : State, s.inputs.reset = false →
    (s.host.operation = some .clearConfirm →
      s.line.state = .stopped ∨ s.line.state = .idle ∨ s.line.state = .faulted →
      NonePending s → exec .clearConfirmCompletion s = .next
        { s with
          store := []
          queue :=
            { s.queue with order := [], lastKey := none, lastEnded := none, consecutive := 0 }
          planner := { s.planner with plans := [none, none, none, none] }
          line :=
            { s.line with state := .idle, drain := false, pause := false, first := none, further := 0 }
          holds := { causes := HoldSet.none, raised := HoldSet.none }
          tracking := { s.tracking with pieces := [] }
          carrier :=
            { s.carrier with
              transmitting := some (s.carrier.transmitting.getD .cancelAll)
              waiting := if s.carrier.transmitting.isSome then [.cancelAll] else []
              jobs := []
              lq := min s.carrier.lmax (max s.carrier.lmin s.carrier.start)
              accumulator := 0
              windowCount := 0
              waits := 0 }
          verify := Verify.mk [] none 0 0 false s.verify.linkErrors s.verify.strays
          stacker :=
            { s.stacker with
              bundles := []
              ejectA := EjectTimer.stopped
              ejectB := EjectTimer.stopped
              lastReserved := none
              request := none
              closedOrder := []
              exceptions := [] }
          units := s.units.map (fun u =>
            { u with
              advance := 0
              compLimit := false
              window := u.window.map (fun w => { w with piece := none }) })
          host :=
            { s.host with
              slot := .formed .ok [0#8, 2#8]
              operation := none
              cleared := true } })
      ∧ (s.host.operation ≠ some .clearConfirm → exec .clearConfirmCompletion s = .next s)

/-- R177. CLEAR SETUP, in every line state, is accepted when the line is STOPPED or IDLE, the tracking
table is empty and no bundle is EJECTING, whatever the drain flag: the latch then holds a clear setup.
Else it is refused with STATE and leaves the latch empty. -/
def Obligations.ClearSetupChecksConditions : Prop :=
  ∀ s : State, Listening s →
    (Clearable s → exec (.clearSetup (.fields ())) s = .next
        { s with host := { s.host with slot := .formed .ok [], latch := .clear } })
      ∧ (¬ Clearable s →
        Refuses .state s (exec (.clearSetup (.fields ())) s))

/-- R54. RUN by line state, for a line unit whose relations hold (`LineSafe`, an invariant): refused
with STATE in IDLE and with a fault input active in STOPPED or FAULTED; else the line goes from STOPPED
or FAULTED, its causes emptied, to the moving state or, while a hold cause stands, to HOLDING; a pending
pause is cancelled; HOLDING stays. The pitch period is absent when DRIVE-ON turns on, the backlash is
not looked at, and a drain whose conditions hold already completes. -/
def Obligations.RunByLineState : Prop :=
  ∀ s : State, Listening s → LineSafe s.line →
    let run := exec (.run (.fields ())) s
    let ok (l : LineUnit) : State := { s with line := l, host := s.host.answered .ok [] }
    let standing := s.line.state = .stopped ∨ s.line.state = .faulted
    (s.line.state = .idle → Refuses .state s run)
      ∧ (standing → anyFaultInput s = true → Refuses .state s run)
      ∧ (standing → anyFaultInput s = false → s.holds.causes ≠ HoldSet.none →
        run = .next (ok
          { s.line with state := .holding, holdTimer := MsTimer.zero, first := none, further := 0 }))
      ∧ (standing → anyFaultInput s = false → s.holds.causes = HoldSet.none → s.line.drain = false →
        run = .next (ok { s.line with state := .running, period := none, first := none, further := 0 }))
      ∧ (standing → anyFaultInput s = false → s.holds.causes = HoldSet.none → s.line.drain = true →
        (¬ Drained s →
          run = .next (ok
            { s.line with state := .draining, period := none, first := none, further := 0 }))
        ∧ (Drained s → ∃ t, run = .next t ∧ t.line.state = .stopped ∧ t.line.drain = false
            ∧ t.line.first = none ∧ t.host = s.host.answered .ok []))
      ∧ (s.line.state = .running ∨ s.line.state = .draining →
        run = .next (ok { s.line with pause := false }))
      ∧ (s.line.state = .holding → run = .next (ok s.line))

/-- PAUSE by line state, for a line unit whose relations hold: in a moving state the pause flag is set;
from HOLDING the line goes to STOPPED at once with its causes kept, and pending unit settings take
effect, unit after unit, as a SET UNIT at rest does (a window of U16 that closes in the act samples
GAUGE, a free value: log entry 26); STOPPED stays; IDLE and FAULTED refuse with STATE (with an empty
payload: log entry 11). -/
def Obligations.PauseByLineState : Prop :=
  (∀ s : State, Listening s → LineSafe s.line →
    let pause := exec (.pause (.fields ())) s
    let stopped :=
      { s with line := { s.line with state := .stopped }, host := { s.host with latch := .empty } }
    (s.line.state = .running ∨ s.line.state = .draining → pause = .next
        { s with line := { s.line with pause := true }, host := s.host.answered .ok [] })
      ∧ (s.line.state = .holding → pause = .next
        { applyPending (freshGauge (unitAt s 16).pending.isSome stopped) with
          host := s.host.answered .ok [] })
      ∧ (s.line.state = .holding → NonePending s → pause = .next
        { stopped with host := s.host.answered .ok [] })
      ∧ (s.line.state = .stopped → pause = .next { s with host := s.host.answered .ok [] })
      ∧ (s.line.state = .idle ∨ s.line.state = .faulted →
        pause = .next { s with host := s.host.answered .state [] }))
    ∧ ∀ s : State, applyPending s = (List.range 19).foldl
      (fun t u => ((unitAt t u).pending.map (fun n => writeUnit u n t)).getD t) s

/-- DRAIN by line state, for a line unit whose relations hold: RUNNING and, with no fault input active,
STOPPED go to DRAINING with the drain flag set, and complete the drain at once when its conditions
already hold, with every plan FREE and every bundle EJECTING or CLOSED; HOLDING and FAULTED only set the
flag; DRAINING stays; IDLE and a STOPPED line with a fault input active refuse with STATE. The model's
readings: a STOPPED line goes to DRAINING even while a hold cause stands (log entry 23), and the refusals
carry an empty payload (log entry 11). The completion (R43, R57, R155), wherever the drain test makes it:
every plan is FREE and its QUEUED and IN-FLIGHT records lose their references; each ordinal's bundle is
planned-final; a FILLING or HELD bundle closes, PLANNED if complete, else with reason DRAIN; a FORMING
one is freed with the report DRAIN and the count, its records lose its number, and the request becomes
absent with POCKET-WAIT cleared, before the bundles close (log entry 16); the line is STOPPED, its pitch
period absent, and pending unit settings take effect. -/
def Obligations.DrainByLineState : Prop :=
  (∀ s : State, Listening s → LineSafe s.line →
    let drain := exec (.drain (.fields ())) s
    let refused := { s with host := s.host.answered .state [] }
    let ok (l : LineUnit) : State := { s with line := l, host := s.host.answered .ok [] }
    (s.line.state = .idle → drain = .next refused)
      ∧ (s.line.state = .stopped → anyFaultInput s = true → drain = .next refused)
      ∧ (s.line.state = .running ∨ (s.line.state = .stopped ∧ anyFaultInput s = false) →
        (¬ Drained s → drain = .next (ok { s.line with state := .draining, drain := true }))
        ∧ (Drained s → ∃ t, drain = .next t ∧ t.line.state = .stopped ∧ t.line.drain = false
            ∧ t.line.pause = false ∧ t.host = s.host.answered .ok []
            ∧ (BundleSafe s → t.planner.plans = [none, none, none, none]
              ∧ ∀ b ∈ t.stacker.bundles, b.state = .ejecting ∨ b.state = .closed)))
      ∧ (s.line.state = .holding ∨ s.line.state = .faulted →
        drain = .next (ok { s.line with drain := true }))
      ∧ (s.line.state = .draining → drain = .next (ok s.line)))
    ∧ ∀ s : State, BundleSafe s → Drained s → s.line.state = .draining →
      let finals := s.stacker.bundles.map (fun b =>
        if (ordinalAt s (PlanRef.mk b.plan b.ordinal)).any
            (fun o => decide (o.status = .allocated b.number)) = true then
          { b with final := true } else b)
      let freed := finals.filter (fun b => b.state = .forming)
      let ends (k : PocketId) : Bool := finals.any (fun b =>
        (b.state = .filling || b.state = .held) && decide (b.pocket = some k))
      let causes := if s.stacker.request = none then s.holds.causes
        else { s.holds.causes with pocketWait := false }
      drainTest s = applyPending
        { s with
          store := s.store.map (fun r =>
            { r with
              planRef := if (r.state = .queued ∨ r.state = .inFlight)
                  ∧ r.planRef.any (fun f => decide (f.plan < 4)) = true then none else r.planRef
              bundle := if freed.any (fun b => decide (r.bundle = some b.number)) = true then none
                else r.bundle })
          planner := { s.planner with plans := [none, none, none, none] }
          line :=
            { s.line with
              state := .stopped
              drain := false
              pause := false
              period := none
              sinceMark := none }
          holds := { s.holds with causes := causes }
          stacker :=
            { s.stacker with
              bundles := (finals.filter (fun b => b.state ≠ .forming)).map (fun b =>
                if b.state = .filling ∨ b.state = .held then
                  { b with
                    state := .ejecting
                    reason := some
                      (if b.final = true ∧ 1 ≤ b.stackedCount ∧ b.stackedCount = b.plannedCount then
                        .planned else .drain)
                    short := decide (b.stackedCount < b.plannedCount)
                    claim := false }
                else b)
              ejectA := if ends .a = true then EjectTimer.stopped else s.stacker.ejectA
              ejectB := if ends .b = true then EjectTimer.stopped else s.stacker.ejectB
              request := none
              lastFreed := (freed.getLast?.map (fun b => FreedReport.mk b.number b.route .drain)).or
                s.stacker.lastFreed
              freedCount := freed.foldl (fun n _ => if n < 65535 then n + 1 else n)
                s.stacker.freedCount } }

/-- The RESET command, in every line state, busy or not, in one act: the line goes to IDLE and
every block takes its RESET column, CANCEL ALL is produced, pending unit settings take effect, the latch
and the snapshots are emptied, CLEARED is set, and the answer is OK. Settings, geometry, the values in
force, the attention set and the inputs stay. That the window of the pitch in progress counts as not yet
opened afterwards is log entry 31, the model's choice. -/
def Obligations.ResetCommandResetsPart : Prop :=
  ∀ s : State, TakesFrames s → exec (.reset (.fields ())) s = .next
    { s with
      store := []
      queue := { s.queue with order := [], lastKey := none, lastEnded := none, consecutive := 0 }
      planner := { s.planner with plans := [none, none, none, none] }
      line :=
        { s.line with
          state := .idle
          drain := false
          pause := false
          pitch := 0
          period := none
          sinceMark := none
          holdTimer := MsTimer.zero
          first := none
          further := 0 }
      holds := { causes := HoldSet.none, raised := HoldSet.none }
      tracking := { pieces := [], counter := 0, gapCount := 0, lastGap := none }
      carrier :=
        { s.carrier with
          transmitting := some (s.carrier.transmitting.getD .cancelAll)
          waiting := if s.carrier.transmitting.isSome then [.cancelAll] else []
          jobs := []
          lq := min s.carrier.lmax (max s.carrier.lmin s.carrier.start)
          accumulator := 0
          windowCount := 0
          waits := 0
          lastRefusal := none
          linkErrors := 0 }
      verify := Verify.mk [] none 0 0 false 0 0
      diverter := Diverter.mk s.diverter.remakeLimit s.diverter.tolerance 0 0 0 0 0 0
      stacker :=
        { s.stacker with
          bundles := []
          counter := 1
          ejectA := EjectTimer.stopped
          ejectB := EjectTimer.stopped
          lastReserved := none
          request := none
          closedOrder := []
          exceptions := []
          lateCount := 0
          lastFreed := none
          freedCount := 0 }
      units := s.units.map (fun u => TimingUnit.compensate s.geometry.c 0
        { u with
          settings := u.pending.getD u.settings
          pending := none
          ordered := false
          pulse := none
          window := none
          opened := false })
      host :=
        { s.host with
          slot := .formed .ok []
          latch := .empty
          operation := none
          cleared := true
          lineItem := none
          positionItems := []
          unitItems := [] } }

/-- A RESET during either confirm has the same result as one taken just before the confirm's command. -/
def Obligations.ResetDuringConfirmEqualsResetBefore : Prop :=
  ∀ (c : Instr) (s t : State), Listening s →
    c = .jobConfirm (.fields ()) ∨ c = .clearConfirm (.fields ()) → exec c s = .next t →
    exec (.reset (.fields ())) t = exec (.reset (.fields ())) s
      ∧ ∃ u, exec (.reset (.fields ())) t = .next u ∧ rdy u = true

/-! ### Address records, bundles and exceptions -/

/-- LOAD refuses a frame of no or more than 8 records, and one whose length does not fit, with RANGE, and
with geometry unset with STATE, accepted count 0 (that RANGE comes before STATE is log entry 32, the
model's choice); else it accepts the records in order up to the first that fails a check, whose cause it
answers with PARTIAL: each accepted record is allocated with its values, appended at the back of the
queue, and becomes the measure of the ORDER check. The checks of one record come in their order: form,
DUPLICATE, ORDER, FULL. The values of an accepted record (R4), with its nominal mass and thickness (R29,
R30), and its text in lines. Each answer gives the accepted count, the cause (00h with OK; left open here
in a whole refusal, log entry 11) and the free count. -/
def Obligations.LoadAcceptsUpToFirstRefusal : Prop :=
  (∀ (p : Payload (List LoadRecord)) (s : State), Listening s →
    let load := exec (.load p) s
    let bytes (n code free : Nat) := le 1 n ++ le 1 code ++ le 2 free
    let refused (c : ResultCode) := ∃ code,
      load = .next { s with host := s.host.answered c (bytes 0 code (512 - s.store.length)) }
    (p = .malformed → refused .range)
      ∧ ∀ rs, p = .fields rs →
        (rs.length < 1 ∨ 8 < rs.length → refused .range)
        ∧ (1 ≤ rs.length → rs.length ≤ 8 → s.geometry.isSet = false → refused .state)
        ∧ (1 ≤ rs.length → rs.length ≤ 8 → s.geometry.isSet = true →
          ∃ n cause t, n ≤ rs.length
            ∧ t = (rs.take n).foldl (fun u r => acceptRecord r u) s
            ∧ load = .next
              { t with
                host := s.host.answered (if cause = none then .ok else .partialResult)
                  (bytes n ((cause.map ResultCode.value).getD 0) (512 - t.store.length)) }
            ∧ t.store = s.store ++ (rs.take n).map (loadedRecord s.planner)
            ∧ t.queue.order = s.queue.order ++ (rs.take n).map (fun r => r.key)
            ∧ (∀ m r, m < n → rs[m]? = some r →
                loadCause r ((rs.take m).foldl (fun u r => acceptRecord r u) s) = none)
            ∧ (cause = none → n = rs.length)
            ∧ (∀ c, cause = some c → ∃ r, rs[n]? = some r ∧ loadCause r t = some c)))
    ∧ (∀ (r : LoadRecord) (s : State),
      let formed := r.key ≠ 0 ∧ r.route ≤ 999999
        ∧ ((splitLines r.text).length ≤ 6 ∧ (∀ l ∈ splitLines r.text, l.length ≤ 40)
            ∧ ∀ c ∈ r.text, 0x20 ≤ c.toNat)
        ∧ ∀ i, i < 6 → r.version.getLsbD i = true → s.geometry.fitted.getLsbD i = true
      let held := ∃ a ∈ s.store, a.key = r.key
      let ordered := (∀ k, s.queue.lastKey = some k →
          k.route < r.route ∨ (k.route = r.route ∧ k.sequence < r.sequence))
        ∧ s.queue.lastEnded ≠ some r.route
      (¬ formed → loadCause r s = some .range)
        ∧ (formed → held → loadCause r s = some .duplicate)
        ∧ (formed → ¬ held → ¬ ordered → loadCause r s = some .order)
        ∧ (formed → ¬ held → ordered → 512 ≤ s.store.length → loadCause r s = some .full)
        ∧ (formed → ¬ held → ordered → s.store.length < 512 → loadCause r s = none)
        ∧ loadedRecord s.planner r =
          { key := r.key
            route := r.route
            sequence := r.sequence
            endOfRoute := r.endOfRoute
            version := r.version
            text := splitLines r.text
            nominalMass := nominalMassOf s.planner r.version
            nominalThickness := thicknessOf s.planner r.version
            state := .queued
            kind := .normal
            remakeCount := 0
            amendCount := 0
            planRef := none
            bundle := none
            withdrawPending := false
            lastDefect := none
            disposition := none }
        ∧ acceptRecord r s =
          { s with
            store := s.store ++ [loadedRecord s.planner r]
            queue :=
              { s.queue with
                order := s.queue.order ++ [r.key]
                lastKey := some (SortKey.mk r.route r.sequence)
                lastEnded := if r.endOfRoute = true then some r.route else s.queue.lastEnded } })
    ∧ (∀ (p : Planner) (v : InsertSet),
      let sum (f : InsertSettings → Nat) : Nat :=
        ((List.range 6).map (fun i => if v.getLsbD i = true then f (insertAt p i) else 0)).sum
      nominalMassOf p v = min 4095 (p.product.baseMass + sum (fun i => i.mass)
          + p.product.carrierMass + p.filmMass)
        ∧ thicknessOf p v = p.product.baseThickness + sum (fun i => i.thickness)
          + p.product.carrierThickness)
    ∧ ∀ t : List Symbol, splitLines t ≠ [] ∧ (∀ l ∈ splitLines t, 0x7F#7 ∉ l)
      ∧ (List.intersperse [0x7F#7] (splitLines t)).flatten = t

/-- FIND changes nothing: NOT-FOUND for a key that no allocated record holds, else OK with the values of
R18 in their order after a presence byte, an absent one as zeros: the kind and the queue position,
counted from 1, while QUEUED, the piece number of an IN-FLIGHT record or of an exception entry, and the
rest (the bits of the presence byte and the numbers of the disposition are log entry 13's, the empty
payload of the refusal log entry 11's choice). -/
def Obligations.FindReportsRecord : Prop :=
  (∀ (key : Nat) (s : State), Listening s →
    (findRecord s key = none →
        exec (.find (.fields key)) s = .next { s with host := s.host.answered .notFound [] })
      ∧ (∀ r, findRecord s key = some r →
        exec (.find (.fields key)) s = .next { s with host := s.host.answered .ok (findPayload s r) })
      ∧ (∀ r i, r.state = .queued → s.queue.order.Nodup → s.queue.order[i]? = some r.key →
        queuePosition s r = some (i + 1))
      ∧ (∀ r, r.state ≠ .queued → queuePosition s r = none))
    ∧ ∀ (s : State) (r : Record),
      let queued := decide (r.state = .queued)
      let piece : Option (BitVec 16) :=
        if r.state = .inFlight then (pieceOf s r.key).map (fun p => p.number)
        else if r.state = .exception then
          (s.stacker.exceptions.find? (fun e => e.key == r.key)).bind (fun e => e.piece)
        else none
      let cause (c : DefectCause) : Nat := [DefectCause.magDouble, .insertMiss, .insertDouble,
        .noPrint, .noRead, .keyMismatch, .wrapAbort, .cutFault, .thickLow, .thickHigh].idxOf c + 1
      let outcome (d : Disposition) : Nat :=
        [Disposition.mailed, .spoiled, .lateMade, .lateUnmade, .withdrawn].idxOf d
      findPayload s r = le 1 (flagBits [queued, queued, piece.isSome, r.bundle.isSome,
          r.lastDefect.isSome, r.disposition.isSome])
        ++ le 1 ([RecordState.free, .queued, .inFlight, .stacked, .bundled, .exception].idxOf r.state)
        ++ le 1 (if queued = true then [Kind.normal, .remake, .return].idxOf r.kind else 0)
        ++ le 2 ((queuePosition s r).getD 0) ++ le 2 ((piece.map BitVec.toNat).getD 0)
        ++ le 2 (r.bundle.getD 0) ++ le 1 r.remakeCount ++ le 1 r.amendCount
        ++ le 1 r.withdrawPending.toNat ++ le 1 ((r.lastDefect.map cause).getD 0)
        ++ le 1 ((r.disposition.map outcome).getD 0)

/-- R19. AMEND by its checks in order: NOT-FOUND, STATE unless QUEUED, LIMIT at 4 amends, RANGE, STATE
for a version on a planned record; else text and version are replaced where carried, the nominal values
follow a version, the amend count rises by 1, and everything else of the part stays. -/
def Obligations.AmendReplacesTextAndVersion : Prop :=
  ∀ (f : AmendFields) (s : State), Listening s →
    let amend := exec (.amend (.fields f)) s
    let refused (c : ResultCode) := Refuses c s amend
    let formed := (f.text ≠ none ∨ f.version ≠ none) ∧ (∀ t, f.text = some t → textInForm t = true)
      ∧ ∀ v, f.version = some v → versionFitted s.geometry v = true
    (findRecord s f.key = none → refused .notFound)
      ∧ ∀ r, findRecord s f.key = some r →
        (r.state ≠ .queued → refused .state)
        ∧ (r.state = .queued → 4 ≤ r.amendCount → refused .limit)
        ∧ (r.state = .queued → r.amendCount < 4 → ¬ formed → refused .range)
        ∧ (r.state = .queued → r.amendCount < 4 → formed → f.version ≠ none → r.planRef ≠ none →
            refused .state)
        ∧ (r.state = .queued → r.amendCount < 4 → formed → f.version = none ∨ r.planRef = none →
            amend = .next
              { s with
                store := s.store.map (fun a => if a.key = f.key then
                  { a with
                    text := (f.text.map splitLines).getD a.text
                    version := f.version.getD a.version
                    nominalMass := (f.version.map (nominalMassOf s.planner)).getD a.nominalMass
                    nominalThickness :=
                      (f.version.map (thicknessOf s.planner)).getD a.nominalThickness
                    amendCount := a.amendCount + 1 } else a)
                host := s.host.answered .ok [] })

/-- WITHDRAW by the record's state: NOT-FOUND; a QUEUED record leaves the queue, departs and is freed (it
is freed before its ordinal is adjusted: log entry 16, DEDUCED); an IN-FLIGHT one whose piece is not
PASSING gets withdraw-pending, and its piece's job is cancelled, a NONE or DUE one without a message, a
SENT or ACCEPTED one with its CANCEL, out of the list and with a dispatch, any other not at all; a second
time nothing changes; TOO-LATE for a PASSING piece and for STACKED and BUNDLED; STATE for EXCEPTION. The
OK answer reports the state the record had (its payload is log entry 13's, the empty payloads of the
refusals log entry 11's choice). A departure (R39, R40), of every kind, lowers its ordinal's planned
count and mass, never below the stacked count: a WAITING ordinal at 0 is SKIPPED; an ALLOCATED one falls
with its bundle while that is FORMING, FILLING or HELD, is EMPTIED at 0 with the bundle freed and
reported (a request answered by the pocket that it held), and else makes the completion test; no other
ordinal changes. -/
def Obligations.WithdrawByRecordState : Prop :=
  (∀ (key : Nat) (s : State), Listening s →
    let withdraw := exec (.withdraw (.fields key)) s
    let host (c : ResultCode) (p : List Byte) : State := { s with host := s.host.answered c p }
    (findRecord s key = none → withdraw = .next (host .notFound []))
      ∧ ∀ r, findRecord s key = some r →
        (r.state = .queued →
          let freed :=
            { s with
              store := s.store.filter (fun a => a.key ≠ key)
              queue := { s.queue with order := s.queue.order.filter (fun k => k ≠ key) }
              host := { s.host with latch := .empty } }
          withdraw = .next { settle (depart r freed) with host := s.host.answered .ok [1#8] }
            ∧ findRecord (settle (depart r freed)) key = none
            ∧ (r.planRef = none → s.line.state ≠ .holding → s.line.state ≠ .draining →
              withdraw = .next { freed with host := s.host.answered .ok [1#8] }))
        ∧ (r.state = .inFlight → ∀ p, pieceOf s key = some p → p.stage ≠ .passing →
            (r.withdrawPending = true → withdraw = .next (host .ok [2#8]))
            ∧ (r.withdrawPending = false →
              let marked : State :=
                { s with
                  store := s.store.map (fun a =>
                    if a.key = key then { a with withdrawPending := true } else a)
                  host := { s.host with latch := .empty } }
              let told := produceCancel p.number marked
              let cancelled (u : State) : State :=
                let pieces := u.tracking.pieces.map (fun q =>
                  if q.number = p.number then { q with job := .cancelled } else q)
                let waits := pieces.any (fun q => q.waiting && (q.job = .due || q.job = .sent))
                { u with
                  tracking := { u.tracking with pieces := pieces }
                  holds :=
                    { u.holds with
                      causes :=
                        { u.holds.causes with
                          printerWait := u.holds.causes.printerWait && waits } } }
              let answered (u : State) : State :=
                { settle u with host := s.host.answered .ok [2#8] }
              (p.job = .none ∨ p.job = .due → withdraw = .next (answered (cancelled marked)))
                ∧ (p.job = .sent ∨ p.job = .accepted → withdraw = .next (answered
                  (dispatch (cancelled
                    { told with
                      carrier :=
                        { told.carrier with
                          jobs := s.carrier.jobs.filter (fun k => k ≠ p.number) } }))))
                ∧ (p.job = .printed ∨ p.job = .refused ∨ p.job = .cancelled →
                  withdraw = .next (answered marked))
                ∧ ∃ t q, withdraw = .next t ∧ findRecord t key = some q
                  ∧ q.withdrawPending = true ∧ q.state = .inFlight
                  ∧ t.tracking.pieces.map (fun p => p.number)
                    = s.tracking.pieces.map (fun p => p.number)))
        ∧ (r.state = .inFlight → ∀ p, pieceOf s key = some p → p.stage = .passing →
            withdraw = .next (host .tooLate []))
        ∧ (r.state = .stacked ∨ r.state = .bundled → withdraw = .next (host .tooLate []))
        ∧ (r.state = .exception → withdraw = .next (host .state [])))
    ∧ ∀ (r : Record) (s : State),
      (r.planRef = none → depart r s = s)
      ∧ ∀ f p o, r.planRef = some f → planAt s f.plan = some p → p.sizes[f.ordinal]? = some o →
        let entry (e : Machine.Ordinal) (u : State) : State :=
          { u with
            planner :=
              { u.planner with
                plans :=
                  u.planner.plans.set f.plan (some { p with sizes := p.sizes.set f.ordinal e }) } }
        let fallen (stacked : Nat) : Machine.Ordinal :=
          { o with count := max stacked (o.count - 1), mass := o.mass - r.nominalMass }
        (o.status = .waiting →
          (1 < o.count → depart r s = entry (fallen 0) s)
          ∧ (o.count ≤ 1 → depart r s
            = retirementTest f.plan (entry { fallen 0 with status := .skipped } s)))
        ∧ (o.status = .skipped ∨ o.status = .emptied ∨ o.status = .released → depart r s = s)
        ∧ ∀ n b, o.status = .allocated n → findBundle s n = some b →
          (b.state = .ejecting ∨ b.state = .closed → depart r s = s)
          ∧ (b.state = .forming ∨ b.state = .filling ∨ b.state = .held →
            let lowered := entry (fallen b.stackedCount)
              { s with
                stacker :=
                  { s.stacker with
                    bundles := s.stacker.bundles.map (fun c => if c.number = n then
                      { c with
                        plannedCount := max c.stackedCount (c.plannedCount - 1)
                        plannedMass := c.plannedMass - r.nominalMass } else c) } }
            let left := max b.stackedCount (b.plannedCount - 1)
            let freed :=
              { lowered with
                store := s.store.map (fun a =>
                  if a.bundle = some n then { a with bundle := none } else a)
                stacker :=
                  { lowered.stacker with
                    bundles := lowered.stacker.bundles.filter (fun c => c.number ≠ n)
                    lastFreed := some (FreedReport.mk n b.route .emptied)
                    freedCount :=
                      if s.stacker.freedCount < 65535 then s.stacker.freedCount + 1
                      else s.stacker.freedCount
                    request := if s.stacker.request = some n then none else s.stacker.request }
                holds :=
                  if s.stacker.request = some n then
                    { s.holds with causes := { s.holds.causes with pocketWait := false } }
                  else s.holds }
            (left ≠ 0 → depart r s = completionTest n lowered)
            ∧ (left = 0 → depart r s = retirementTest f.plan
                (entry { fallen b.stackedCount with status := .emptied, final := true }
                  (freeUnclosed n .emptied lowered))
              ∧ freeUnclosed n .emptied lowered
                = if b.pocket = none then freed else answerRequest freed))

/-- R150. READ BUNDLE changes nothing: NOT-FOUND for number 0 with an empty closed order and for a number
no allocated bundle record holds, RANGE for a first index above the stacked count, else the bundle
record, the length of its member list and up to 48 members from the index onward. The bundle record
readout is the 28 bytes that section 10.6 lays out. -/
def Obligations.ReadBundleReturnsPage : Prop :=
  (∀ (f : BundleReadFields) (s : State), Listening s →
    let read := exec (.readBundle (.fields f)) s
    let page (b : Bundle) := (b.members.drop f.first).take 48
    let named (b : Bundle) := (f.bundle ≠ 0 ∧ findBundle s f.bundle = some b)
      ∨ (f.bundle = 0 ∧ ∃ n rest, s.stacker.closedOrder = n :: rest ∧ findBundle s n = some b)
    ((f.bundle = 0 ∧ s.stacker.closedOrder = []) ∨ (f.bundle ≠ 0 ∧ findBundle s f.bundle = none) →
        Refuses .notFound s read)
      ∧ ∀ b, named b →
        (b.stackedCount < f.first → Refuses .range s read)
        ∧ (f.first ≤ b.stackedCount → read = .next
          { s with
            host := s.host.answered .ok
              (bundleReadout b ++ le 2 b.members.length ++ le 1 f.first ++ le 1 (page b).length
                ++ (page b).flatMap (le 4)) }))
    ∧ ∀ b : Bundle,
      let pocket : Nat := if b.pocket = some .b then 1 else 0
      let reason : Nat := match b.reason with
        | none => 0
        | some r => [CloseReason.planned, .holdExpired, .forced, .drain, .emptied].idxOf r
      let started : Nat := match b.holdStart with
        | none => 0
        | some p => p.toNat
      bundleReadout b = le 1 (flagBits [b.pocket.isSome, b.reason.isSome, b.holdStart.isSome])
          ++ le 1 (flagBits [b.final, b.overmass, b.short, b.claim])
          ++ le 2 b.number ++ le 4 b.route ++ le 1 b.plan ++ le 2 b.ordinal
          ++ le 1 ([BundleState.forming, .filling, .held, .ejecting, .closed].idxOf b.state)
          ++ le 1 pocket ++ le 2 b.plannedCount ++ le 2 b.plannedMass ++ le 2 b.stackedCount
          ++ le 4 b.stackedMass ++ le 1 reason ++ le 4 started
        ∧ (bundleReadout b).length = 28

/-- RELEASE BUNDLE: NOT-FOUND for an unknown number, STATE for a bundle that is not CLOSED (each with an
empty payload, log entry 11); else every member is freed, the bundle record is FREE and out of the closed
order, its ordinal, if still ALLOCATED with its number, becomes RELEASED, its plan makes the retirement
test, and the answer counts the members (in two bytes, log entry 13). The line, the pieces, the other
bundles, the units and the settings stay. The retirement test (R42): a plan every ordinal of which is
final and SKIPPED, EMPTIED, RELEASED or ALLOCATED with its bundle CLOSED becomes FREE, and the QUEUED and
IN-FLIGHT records lose their references to it; nothing else changes. -/
def Obligations.ReleaseBundleFreesMembers : Prop :=
  (∀ (n : Nat) (s : State), Listening s →
    let release := exec (.releaseBundle (.fields n)) s
    (findBundle s n = none → release = .next { s with host := s.host.answered .notFound [] })
      ∧ ∀ b, findBundle s n = some b →
        (b.state ≠ .closed → release = .next { s with host := s.host.answered .state [] })
        ∧ (b.state = .closed →
          let freed :=
            { s with
              store := (s.store.filter (fun r => r.key ∉ b.members)).map (fun r =>
                if r.bundle = some n then { r with bundle := none } else r)
              queue := { s.queue with order := s.queue.order.filter (fun k => k ∉ b.members) }
              planner :=
                { s.planner with
                  plans := s.planner.plans.modify b.plan (Option.map (fun p =>
                    { p with
                      sizes := p.sizes.modify b.ordinal (fun o =>
                        if o.status = .allocated n then { o with status := .released } else o) })) }
              stacker :=
                { s.stacker with
                  bundles := s.stacker.bundles.filter (fun c => c.number ≠ n)
                  closedOrder := s.stacker.closedOrder.filter (fun m => m ≠ n) }
              host := { s.host with latch := .empty } }
          release = .next { retirementTest b.plan freed with
              host := s.host.answered .ok (le 2 b.members.length) }
            ∧ (retirementTest b.plan freed).store.map (fun r => r.key)
              = (s.store.map (fun r => r.key)).filter (fun k => k ∉ b.members)))
    ∧ ∀ (i : Nat) (s : State),
      (∀ p, planAt s i = some p → (∀ o ∈ p.sizes, OrdinalEnds s o) → retirementTest i s =
        { s with
          planner := { s.planner with plans := s.planner.plans.set i none }
          store := s.store.map (fun r =>
            if (r.state = .queued ∨ r.state = .inFlight) ∧ r.planRef.any (fun f => f.plan == i) then
              { r with planRef := none } else r) })
      ∧ (∀ p, planAt s i = some p → (∃ o ∈ p.sizes, ¬ OrdinalEnds s o) → retirementTest i s = s)
      ∧ (planAt s i = none → retirementTest i s = s)

/-- R153, R154. READ EXCEPTIONS changes nothing and answers with the count of entries and the oldest 16.
RELEASE EXCEPTIONS refuses a count of 0 or above 128 with RANGE; else the oldest n entries leave the
front of the list, their records are freed, and the answer counts them. An entry is the 10 bytes that
section 10.6 lays out, its disposition numbered by the list of R3 (log entry 13, the model's choice). -/
def Obligations.ExceptionsAreReadAndReleased : Prop :=
  (∀ s : State, Listening s →
    let page := s.stacker.exceptions.take 16
    exec (.readExceptions (.fields ())) s = .next
      { s with
        host := s.host.answered .ok
          (le 1 s.stacker.exceptions.length ++ le 1 page.length ++ page.flatMap exceptionEntry) }
    ∧ ∀ n : Nat,
      (n < 1 ∨ 128 < n → Refuses .range s (exec (.releaseExceptions (.fields n)) s))
      ∧ (1 ≤ n → n ≤ 128 →
        let gone := (s.stacker.exceptions.take n).map (fun e => e.key)
        ∃ width, 1 ≤ width ∧ exec (.releaseExceptions (.fields n)) s = .next
          { s with
            store := s.store.filter (fun r => r.key ∉ gone)
            queue := { s.queue with order := s.queue.order.filter (fun k => k ∉ gone) }
            stacker := { s.stacker with exceptions := s.stacker.exceptions.drop n }
            host := s.host.answered .ok (le width gone.length) }))
    ∧ ∀ e : ExceptionEntry,
      let cause : Nat := match e.defect with
        | none => 0
        | some c => [DefectCause.magDouble, .insertMiss, .insertDouble, .noPrint, .noRead,
            .keyMismatch, .wrapAbort, .cutFault, .thickLow, .thickHigh].idxOf c + 1
      let piece : Nat := match e.piece with
        | none => 0
        | some n => n.toNat
      exceptionEntry e = le 4 e.key ++ le 1 (flagBits [e.defect.isSome, e.piece.isSome])
          ++ le 1 ([Disposition.mailed, .spoiled, .lateMade, .lateUnmade, .withdrawn].idxOf
            e.disposition)
          ++ le 1 cause ++ le 2 piece ++ le 1 e.remakeCount
        ∧ (exceptionEntry e).length = 10

/-! ### The encoder, faults and time limits -/

/-- A forward count repays backlash first; else it raises the in-pitch count by 1, or, at C, is a pitch
mark: the in-pitch count becomes 0, the pitch count rises by 1 modulo 2^32, and every position with it,
in every line state. `t` is the state after the time since the last count has passed (log entry 4). The
pitch period (R49): a mark reached with DRIVE-ON on makes it the time since the last such mark, at most
4,294,967,295 µs, or keeps it where no measurement is in progress, and begins the next measurement; it is
absent once DRIVE-ON turns off, and a mark with DRIVE-ON off makes no measurement. -/
def Obligations.ForwardCountMovesPhaseAndPitch : Prop :=
  ∀ (i : CountInputs) (s : State), s.inputs.reset = false →
    let count := exec (.encoderForwardCount i) s
    let t := passTime i.elapsed { s with inputs := { s.inputs with gauge := i.gauge } }
    let driven : Prop := t.line.state = .running ∨ t.line.state = .draining
    let begun : LineUnit :=
      { t.line with
        inPitch := 0
        pitch := t.line.pitch + 1
        period := if t.line.state.moving = true then
            (t.line.sinceMark.map (fun x => min 4294967295 x)).or t.line.period
          else t.line.period
        sinceMark := if t.line.state.moving = true then some 0 else none }
    (0 < t.line.backlash → count = .next
        { t with line := { t.line with backlash := t.line.backlash - 1 } })
      ∧ (t.line.backlash = 0 → t.line.inPitch + 1 < t.geometry.c → ∃ u, count = .next u
          ∧ u.line.inPitch = t.line.inPitch + 1 ∧ u.line.pitch = t.line.pitch
          ∧ u.line.backlash = 0 ∧ (∀ p, position u p = position t p)
          ∧ u.host = s.host ∧ u.geometry = s.geometry)
      ∧ (t.line.backlash = 0 → t.geometry.c ≤ t.line.inPitch + 1 → ∃ u, count = .next u
          ∧ u.line.inPitch = 0 ∧ u.line.pitch = t.line.pitch + 1 ∧ u.line.backlash = 0
          ∧ (∀ p, position u p = (position t p + 1) % 4294967296)
          ∧ u.host = s.host ∧ u.geometry = s.geometry
          ∧ (markBegun t).line = begun
          ∧ (driven → u.line.state = t.line.state → u.line = begun)
          ∧ (driven → u.line.state ≠ t.line.state → u.line.period = none ∧ u.line.sinceMark = none)
          ∧ (¬ driven → u.line.period = t.line.period ∧ u.line.sinceMark = none))
      ∧ ∀ p, position t p = (t.line.pitch - p.birthPitch).toNat

/-- The change of line state at a pitch mark: a mark of RUNNING with a pause pending stops the line; one
without keeps it moving or takes a hold; one of DRAINING may besides complete the drain; a mark of
STOPPED or HOLDING raises OVERRUN as first cause, one of FAULTED as further cause, and one of IDLE
changes no state. The change itself (log entry 3 on the end of a mark): where DRIVE-ON is off at the
mark, OVERRUN; where a drain has completed, none; else STOPPED exactly when the pause is pending, HOLDING
with its timer at 0 exactly when a hold cause raised at this mark still stands, and the line moves on
otherwise; the end of the mark forgets which causes it raised, and nothing else. The count IS the mark:
its counts, period and settings, then its events one after the other, each the act that a statement of
this file describes, in an order of the outside's that holds each of them once (log entry 2; the place of
the drain test is log entry 28's), then phase 0, then the change of line state. A count within the pitch
is the phase it reaches, every unit acting before the drain test and the pending settings (log entry 30).
The time since the last count has passed before it (log entry 4). -/
def Obligations.PitchMarkChangesLineState : Prop :=
  (∀ (i : CountInputs) (s u : State), s.inputs.reset = false →
    exec (.encoderForwardCount i) s = .next u →
    let t := passTime i.elapsed { s with inputs := { s.inputs with gauge := i.gauge } }
    t.line.backlash = 0 → t.geometry.c ≤ t.line.inPitch + 1 →
    (t.line.state = .running → t.line.pause = true →
        u.line.state = .stopped ∧ u.line.pause = false ∧ u.line.drain = t.line.drain)
      ∧ (t.line.state = .running → t.line.pause = false →
        u.line.state = .running ∨ (u.line.state = .holding ∧ u.holds.causes ≠ HoldSet.none))
      ∧ (t.line.state = .draining → u.line.state = .stopped
        ∨ (t.line.pause = false ∧ (u.line.state = .draining ∨ u.line.state = .holding)))
      ∧ (t.line.state = .stopped ∨ t.line.state = .holding →
        u.line.state = .faulted ∧ u.line.first = some .overrun ∧ u.line.drain = t.line.drain)
      ∧ (t.line.state = .faulted → u.line.state = .faulted ∧ u.line.first = t.line.first
        ∧ u.line.further = t.line.further ||| 16)
      ∧ (t.line.state = .idle → u.line.state = .idle ∧ u.line.first = t.line.first))
    ∧ (∀ (i : CountInputs) (s : State), s.inputs.reset = false →
      let t := passTime i.elapsed { s with inputs := { s.inputs with gauge := i.gauge } }
      let m := t.line.state
      let p := t.line.inPitch + 1
      t.line.backlash = 0 →
      (t.geometry.c ≤ p → ∃ events, exec (.encoderForwardCount i) s
          = .next (endMark (changeAtMark m (phaseZero
            (drainTest (events.foldl (markEvent m) (markBegun t))))))
        ∧ events.Nodup
        ∧ (∀ e, e ∈ events ↔ e ∈ i.order ∨ e ∈ [.windowClose 1, .windowClose 8, .windowClose 9,
          .windowClose 10, .windowClose 11, .windowClose 12, .windowClose 13, .windowClose 15,
          .windowClose 16, .stackerArrival, .diverterArrival, .lookAhead, .holdExpiry, .wrapArrival,
          .verifyTimeout, .verifyArrival, .carrierArrival, .printerJobs, .insertArrivals,
          .birthDecision])
        ∧ (i.order.Nodup → ∃ rest, events = i.order ++ rest))
      ∧ (p < t.geometry.c → exec (.encoderForwardCount i) s
        = .next (settle (phaseReached p { t with line := { t.line with inPitch := p } }))))
    ∧ (∀ (m : LineState) (s : State),
      let moving := m = .running ∨ m = .draining
      let held := (s.holds.raised.printerWait = true ∧ s.holds.causes.printerWait = true)
        ∨ (s.holds.raised.pocketWait = true ∧ s.holds.causes.pocketWait = true)
      let still := { s.line with pause := false, period := none, sinceMark := none }
      (¬ moving → changeAtMark m s = takeFault .overrun s)
        ∧ (moving → s.line.state ≠ m → changeAtMark m s = s)
        ∧ (moving → s.line.state = m →
          (s.line.pause = true → changeAtMark m s = { s with line := { still with state := .stopped } })
          ∧ (s.line.pause = false → held → changeAtMark m s =
            { s with line := { still with state := .holding, holdTimer := MsTimer.zero } })
          ∧ (s.line.pause = false → ¬ held → changeAtMark m s = s))
        ∧ endMark s = { s with holds := { s.holds with raised := HoldSet.none } }
        ∧ MsTimer.zero = { ms := 0, micros := 0 })
    ∧ (∀ s : State,
      let c := s.geometry.c
      let driven := decide (s.line.state = .running ∨ s.line.state = .draining)
      let period := if driven = true then
          (s.line.sinceMark.map (fun x => min 4294967295 x)).or s.line.period
        else s.line.period
      markBegun s =
        { s with
          holds := { s.holds with raised := HoldSet.none }
          stacker := { s.stacker with markLimit := s.stacker.holdLimit }
          line :=
            { s.line with
              inPitch := 0
              pitch := s.line.pitch + 1
              period := period
              sinceMark := if driven = true then some 0 else none }
          units := s.units.mapIdx (fun u t =>
            let settings := t.pending.getD t.settings
            let advance := if isPulse u = true then advanceFor c settings.latency period else 0
            { t with
              settings := settings
              pending := none
              opened := false
              advance := advance
              effOn := settings.on - advance
              effOff := (settings.on - advance + (settings.off + c - settings.on) % c) % c
              compLimit := decide (settings.on < advance) }) })
    ∧ ∀ (m : LineState) (s : State),
      markEvent m s .stackerArrival = stackerArrival s
        ∧ markEvent m s .diverterArrival = diverterArrival s
        ∧ markEvent m s .lookAhead = lookAheadAtMark s
        ∧ exec .verifyTimeout s = .next (lineEvent (fun u => markEvent m u .verifyTimeout) s)
        ∧ markEvent m s .wrapArrival = wrapArrival s
        ∧ markEvent m s .verifyArrival = verifyArrival s
        ∧ markEvent m s .carrierArrival = carrierArrival s
        ∧ markEvent m s .printerJobs = printerJobsAtMark s
        ∧ markEvent m s .insertArrivals = insertArrivals s
        ∧ markEvent m s .birthDecision = birthDecision m s
        ∧ (Drained s → s.line.state = .draining →
          markEvent m s .drainTest = drainTest s ∧ (drainTest s).line.state = .stopped)
        ∧ (¬ Drained s ∨ s.line.state ≠ .draining → drainTest s = s)
        ∧ ∀ u, isPulse u = false → markEvent m s (.windowClose u)
          = if (unitAt s u).window.any (fun w => w.close == 0)
                || (!(unitAt s u).opened && (unitAt s u).effOn == 0) then
              match (unitAt s u).window with
              | none => s
              | some w => deliverResult u w
                { s with units := s.units.modify u (fun t => { t with window := none }) }
            else s

/-- A reverse count raises the backlash count by 1, up to 65,535, and leaves the in-pitch and the pitch
count; a rise from C to C + 1 raises fault REVERSE, and no other rise does. Forward counts repay the
backlash before they move the line. STATUS and the line snapshot item report the backlash count. The
time since the last count has passed before it (log entry 4, the model's choice). A fault, whatever its
cause, by line state (R62, R63): nothing in IDLE; FAULTED with the cause as first cause and no pending
pause from STOPPED and HOLDING; from RUNNING and DRAINING besides with the pitch period absent and
WRAP-ABORT for exactly the pieces at W through X; in FAULTED the cause joins the further-cause set. -/
def Obligations.ReverseCountOwesBacklash : Prop :=
  let fault (c : FaultCause) (s : State) : State :=
    let bit : Nat := [FaultCause.jam, .filmbrk, .guard, .reverse, .overrun, .holdTimeout,
      .carrierSlip, .pocketJam].idxOf c
    let faulted := { s.line with state := .faulted, pause := false, first := some c }
    match s.line.state with
    | .idle => s
    | .stopped | .holding => { s with line := faulted }
    | .running | .draining =>
      { s with
        line := { faulted with period := none, sinceMark := none }
        tracking :=
          { s.tracking with
            pieces := s.tracking.pieces.map (fun p =>
              if s.geometry.w ≤ position s p ∧ position s p ≤ s.geometry.x then
                p.withDefect .wrapAbort .wrap else p) } }
    | .faulted =>
      { s with line := { s.line with further := s.line.further ||| BitVec.twoPow 8 bit } }
  (∀ (elapsed : Nat) (s : State), s.inputs.reset = false →
    let t := passTime elapsed s
    let raised :=
      { t with
        line :=
          { t.line with
            backlash := if t.line.backlash < 65535 then t.line.backlash + 1 else t.line.backlash } }
    (t.line.backlash ≠ t.geometry.c →
        exec (.encoderReverseCount elapsed) s = .next raised)
      ∧ (t.line.backlash = t.geometry.c →
        exec (.encoderReverseCount elapsed) s = .next (fault .reverse raised)
          ∧ (fault .reverse raised).line.backlash = raised.line.backlash
          ∧ (fault .reverse raised).line.inPitch = t.line.inPitch
          ∧ (fault .reverse raised).line.pitch = t.line.pitch))
    ∧ (∀ (c : FaultCause) (s : State), takeFault c s = fault c s)
    ∧ (∀ (i : CountInputs) (s : State), s.inputs.reset = false →
      let t := passTime i.elapsed { s with inputs := { s.inputs with gauge := i.gauge } }
      0 < t.line.backlash → exec (.encoderForwardCount i) s
        = .next { t with line := { t.line with backlash := t.line.backlash - 1 } })
    ∧ (∀ s : State, ((statusPayload s).drop 13).take 2 = le 2 s.line.backlash)
    ∧ ∀ i : LineItem, ((lineItemBytes i).drop 9).take 2 = le 2 i.line.backlash

/-- A fault input that goes active raises its fault by line state: IDLE changes nothing; STOPPED and
HOLDING go to FAULTED with the cause as first cause; RUNNING and DRAINING do so too, with DRIVE-ON off,
the period absent and WRAP-ABORT recorded for exactly the pieces at positions W through X; in FAULTED
the cause joins the further-cause set. An input already active raises nothing, and one that goes
inactive changes only its level. Hold causes and the drain flag are kept. -/
def Obligations.FaultInputByLineState : Prop :=
  ∀ (f : FaultInput) (s : State), s.inputs.reset = false →
    let active := exec (.faultInputActive f) s
    let inputs := (setFaultInput f true s).inputs
    let faulted := { s.line with state := .faulted, pause := false, first := some (inputCause f) }
    (s.inputs.level f = true → active = .next s)
      ∧ (s.inputs.level f = false →
        (s.line.state = .idle → active = .next { s with inputs := inputs })
        ∧ (s.line.state = .stopped ∨ s.line.state = .holding →
          active = .next { s with inputs := inputs, line := faulted })
        ∧ (s.line.state = .running ∨ s.line.state = .draining → active = .next
          { s with
            inputs := inputs
            line := { faulted with period := none, sinceMark := none }
            tracking :=
              { s.tracking with
                pieces := s.tracking.pieces.map (fun p =>
                  if s.geometry.w ≤ position s p ∧ position s p ≤ s.geometry.x then
                    p.withDefect .wrapAbort .wrap else p) } })
        ∧ (s.line.state = .faulted → active = .next
          { s with
            inputs := inputs
            line :=
              { s.line with
                further := s.line.further ||| BitVec.twoPow 8 (inputCause f).index } }))
      ∧ exec (.faultInputInactive f) s = .next (setFaultInput f false s)
      ∧ (inputs.level f = true ∧ (setFaultInput f false s).inputs.level f = false)

/-- A CLEAR edge at a pocket completes the ejection of its EJECTING bundle, in every line state: the
bundle is CLOSED at the back of the closed order, its members are BUNDLED and MAILED, the request is
examined, the plan makes its retirement test, and a hold or a drain that this ends is settled, in this
order (log entry 16). At any other pocket the edge changes nothing. The request examined (R134, R136): a
standing one is answered with the FREE pocket, of two the one not reserved last, A when none was; the
request becomes absent and POCKET-WAIT is cleared. With no request, or no FREE pocket, nothing changes.
-/
def Obligations.ClearEdgeCompletesEjection : Prop :=
  (∀ (p : PocketId) (s : State), s.inputs.reset = false →
    ((∀ b, bundleIn s p = some b → b.state ≠ .ejecting) → exec (.clearEdge p) s = .next s)
      ∧ ∀ b, bundleIn s p = some b → b.state = .ejecting → BundleSafe s →
        let closed :=
          { s with
            store := s.store.map (fun r => if r.key ∈ b.members then
              { r with state := .bundled, disposition := some .mailed } else r)
            stacker :=
              { s.stacker with
                bundles := s.stacker.bundles.map (fun c => if c.number = b.number then
                  { c with state := .closed, pocket := none } else c)
                closedOrder := s.stacker.closedOrder ++ [b.number] } }
        let u := retirementTest b.plan (answerRequest closed)
        exec (.clearEdge p) s = .next (settle u)
          ∧ (s.line.state ≠ .holding → s.line.state ≠ .draining → settle u = u)
          ∧ u.stacker.closedOrder = s.stacker.closedOrder ++ [b.number]
          ∧ (∃ c, findBundle u b.number = some c ∧ c.state = .closed ∧ c.members = b.members
              ∧ (s.stacker.request ≠ some b.number → c.pocket = none))
          ∧ (∀ k ∈ b.members, ∀ r, findRecord s k = some r → ∃ q, findRecord u k = some q
              ∧ q.state = .bundled ∧ q.disposition = some .mailed)
          ∧ (∀ k, k ∉ b.members → ∀ r, findRecord s k = some r → ∃ q, findRecord u k = some q
              ∧ q.state = r.state ∧ q.disposition = r.disposition)
          ∧ u.line = s.line ∧ u.tracking = s.tracking ∧ u.queue = s.queue ∧ u.host = s.host
          ∧ u.stacker.exceptions = s.stacker.exceptions ∧ u.units = s.units)
    ∧ (∀ s : State, s.stacker.request = none
      ∨ (pocketState s .a ≠ .free ∧ pocketState s .b ≠ .free) → answerRequest s = s)
    ∧ (∀ (s : State) (n : Nat) (k : PocketId), s.stacker.request = some n → pocketState s k = .free →
      (pocketState s (otherPocket k) = .free → s.stacker.lastReserved = some (otherPocket k)
        ∨ (s.stacker.lastReserved = none ∧ k = .a)) →
      answerRequest s =
        { s with
          stacker :=
            { s.stacker with
              bundles := s.stacker.bundles.map (fun b =>
                if b.number = n then { b with pocket := some k } else b)
              lastReserved := some k
              request := none }
          holds := { s.holds with causes := { s.holds.causes with pocketWait := false } } })
    ∧ ∀ (s : State) (k : PocketId), pocketState s k = match bundleIn s k with
      | none => .free
      | some b =>
        if b.state = .held then .held else if b.state = .ejecting then .ejecting else .filling

/-- POCKET_JAM raises POCKET-JAM for an EJECTING pocket once for its ejection, and HOLD_TIMEOUT raises
HOLD-TIMEOUT for a line HOLDING with a limit that is not 0. The fault is taken by line state (R62, R63):
in IDLE nothing, from STOPPED and HOLDING to FAULTED, from RUNNING and DRAINING besides with the pitch
period absent and WRAP-ABORT for exactly the pieces at W through X, in FAULTED a further cause; the
bundle stays EJECTING and the hold causes stay. In any other state these events change nothing (log entry
5). The passing of time (R60, R147; that counts and idle steps pass it is log entry 4): with no limit
falling in the span the hold timer of a HOLDING line, the eject timer of an EJECTING pocket, the
measurement of the pitch period and the span to the rise of RDY advance by it, a timer to 65,535 ms at
most; a limit that falls in it is taken at its moment, HOLD-TIMEOUT when the hold timer reaches a limit
that is not 0, POCKET-JAM when an eject timer exceeds its limit, once for the ejection, and the rest of
the span passes after it. Of two eject limits at one moment A is first, and between the hold limit and an
eject limit the order is free (log entry 8, the model's choices). -/
def Obligations.TimeLimitsRaiseTheirFaults : Prop :=
  let fault (c : FaultCause) (s : State) : State :=
    let bit : Nat := [FaultCause.jam, .filmbrk, .guard, .reverse, .overrun, .holdTimeout,
      .carrierSlip, .pocketJam].idxOf c
    let faulted := { s.line with state := .faulted, pause := false, first := some c }
    match s.line.state with
    | .idle => s
    | .stopped | .holding => { s with line := faulted }
    | .running | .draining =>
      { s with
        line := { faulted with period := none, sinceMark := none }
        tracking :=
          { s.tracking with
            pieces := s.tracking.pieces.map (fun p =>
              if s.geometry.w ≤ position s p ∧ position s p ≤ s.geometry.x then
                p.withDefect .wrapAbort .wrap else p) } }
    | .faulted =>
      { s with line := { s.line with further := s.line.further ||| BitVec.twoPow 8 bit } }
  let jam (p : PocketId) (ms micros : Nat) (s : State) : State :=
    let t : EjectTimer := { timer := { ms := ms, micros := micros }, jammed := true }
    { s with
      stacker := match p with
        | .a => { s.stacker with ejectA := t }
        | .b => { s.stacker with ejectB := t } }
  (∀ (p : PocketId) (s : State), s.inputs.reset = false →
    (pocketState s p ≠ .ejecting ∨ (ejectTimer s p).jammed = true →
        exec (.pocketJam p) s = .next s)
      ∧ (pocketState s p = .ejecting → (ejectTimer s p).jammed = false →
        let t := (ejectTimer s p).timer
        exec (.pocketJam p) s = .next (fault .pocketJam
          (if s.stacker.ejectLimit < t.ms then jam p t.ms t.micros s
           else jam p (s.stacker.ejectLimit + 1) 0 s))))
    ∧ (∀ s : State, s.inputs.reset = false →
      (s.line.state ≠ .holding ∨ s.line.holdLimit = 0 → exec .holdTimeout s = .next s)
      ∧ (s.line.state = .holding → s.line.holdLimit ≠ 0 → exec .holdTimeout s = .next
        { s with
          line :=
            { s.line with
              state := .faulted
              pause := false
              first := some .holdTimeout
              holdTimer :=
                if s.line.holdLimit ≤ s.line.holdTimer.ms then s.line.holdTimer
                else { ms := s.line.holdLimit, micros := 0 } } }))
    ∧ ∀ (n : Nat) (s : State),
      let later (x : Nat) (t : MsTimer) : MsTimer :=
        { ms := min 65535 (t.ms + (t.micros + x) / 1000), micros := (t.micros + x) % 1000 }
      let ejecting (x : Nat) (p : PocketId) (t : EjectTimer) : EjectTimer :=
        if pocketState s p = .ejecting then { t with timer := later x t.timer } else t
      let advanced (x : Nat) : State :=
        { s with
          line :=
            { s.line with
              sinceMark := s.line.sinceMark.map (fun m => m + x)
              holdTimer := if s.line.state = .holding then later x s.line.holdTimer
                else s.line.holdTimer }
          startup :=
            { s.startup with
              rdyIn := match s.startup.rdyIn with
                | none => none
                | some m => if m ≤ x then none else some (m - x) }
          stacker :=
            { s.stacker with
              ejectA := ejecting x .a s.stacker.ejectA
              ejectB := ejecting x .b s.stacker.ejectB } }
      let drawn (x : Nat) : State := { advanced x with draws := s.draws + 1 }
      let shown (t : MsTimer) : Nat := t.ms * 1000 + t.micros
      let holdFalls (x : Nat) : Prop := s.line.state = .holding ∧ s.line.holdLimit ≠ 0
        ∧ x = s.line.holdLimit * 1000 - shown s.line.holdTimer
      let ejectFalls (p : PocketId) (x : Nat) : Prop := pocketState s p = .ejecting
        ∧ (ejectTimer s p).jammed = false
        ∧ x = (s.stacker.ejectLimit + 1) * 1000 - shown (ejectTimer s p).timer
      let firstEject (p : PocketId) (x : Nat) : Prop := ejectFalls p x
        ∧ ∀ y, ejectFalls (otherPocket p) y → x < y ∨ (x = y ∧ p = .a)
      let timedOut (x : Nat) : State := passTime (n - x) (fault .holdTimeout (drawn x))
      let jammed (p : PocketId) (x : Nat) : State :=
        let t := later x (ejectTimer s p).timer
        passTime (n - x) (fault .pocketJam (jam p t.ms t.micros (drawn x)))
      ((∀ x, holdFalls x ∨ ejectFalls .a x ∨ ejectFalls .b x → n < x) → passTime n s = advanced n)
        ∧ (∀ x, holdFalls x → x ≤ n → (∀ p y, ejectFalls p y → x < y) → passTime n s = timedOut x)
        ∧ (∀ p x, firstEject p x → x ≤ n → (∀ y, holdFalls y → x < y) →
          passTime n s = jammed p x)
        ∧ ∀ p x, firstEject p x → x ≤ n → holdFalls x →
          passTime n s = timedOut x ∨ passTime n s = jammed p x

/-- The expiry test closes every HELD bundle whose claim flag is clear and whose hold age is at or above
the limit, with reason HOLD-EXPIRED, and no other bundle; the line, the pieces and the units stay. A
pitch mark tests against the bundle hold limit in force; HOLD_EXPIRED makes the test between marks, where
it closes what the last mark would have closed: an age of at least 1 against the limit in force at that
mark (log entry 6, the model's choice). The hold age is the pitch count less the hold start
pitch, modulo 2^32 (R135). The close of a bundle (R144, R145): EJECTING with its reason,
SHORT if members are missing, the claim flag clear, the eject timer of its pocket from 0, and its queued
REMAKEs, in queue order, sent to EXCEPTION as LATE-UNMADE while the list holds fewer entries than 128
less the pieces. The completion test (R142). A bundle that a standing request takes (R135, R136): HELD,
unclaimed, the oldest. -/
def Obligations.HoldExpiryClosesHeldBundles : Prop :=
  (∀ s : State, BundleSafe s →
    let expired (least : Nat) (t : State) : Prop :=
      t.stacker.bundles = s.stacker.bundles.map (fun b =>
          if b.state = .held ∧ b.claim = false ∧ least ≤ holdAge s b then
            { b with
              state := .ejecting
              reason := some .holdExpired
              short := decide (b.stackedCount < b.plannedCount)
              claim := false }
          else b)
        ∧ t.line = s.line ∧ t.tracking = s.tracking ∧ t.units = s.units ∧ t.holds = s.holds
        ∧ t.host = s.host ∧ t.planner = s.planner
    (∀ m, expired s.stacker.holdLimit (markEvent m s .holdExpiry))
      ∧ (s.inputs.reset = false →
        ∃ t, exec .holdExpired s = .next t ∧ expired (max 1 s.stacker.markLimit) t))
    ∧ (∀ (s : State) (b : Bundle) (start : BitVec 32), b.holdStart = some start →
      holdAge s b = (s.line.pitch.toNat + 4294967296 - start.toNat) % 4294967296)
    ∧ (∀ (n : Nat) (why : CloseReason) (s : State) (b : Bundle), findBundle s n = some b →
      let room := 128 - s.tracking.pieces.length - s.stacker.exceptions.length
      let late := (s.queue.order.filter (fun k => (findRecord s k).any (fun r =>
        decide (r.kind = .remake) && decide (r.bundle = some n)))).take room
      closeBundle n why s =
        { s with
          store := s.store.map (fun r => if r.key ∈ late then
            { r with state := .exception, disposition := some .lateUnmade } else r)
          queue := { s.queue with order := s.queue.order.filter (fun k => k ∉ late) }
          stacker :=
            { s.stacker with
              bundles := s.stacker.bundles.map (fun c => if c.number = n then
                { c with
                  state := .ejecting
                  reason := some why
                  short := decide (c.stackedCount < c.plannedCount)
                  claim := false } else c)
              ejectA := if b.pocket = some .a then EjectTimer.stopped else s.stacker.ejectA
              ejectB := if b.pocket = some .b then EjectTimer.stopped else s.stacker.ejectB
              exceptions := s.stacker.exceptions ++ late.map (fun k =>
                ExceptionEntry.mk k .lateUnmade ((findRecord s k).bind (fun r => r.lastDefect)) none
                  (((findRecord s k).map (fun r => r.remakeCount)).getD 0)) } })
    ∧ (∀ (n : Nat) (s : State) (b : Bundle), findBundle s n = some b →
      let complete := (b.state = .filling ∨ b.state = .held) ∧ b.final = true ∧ 1 ≤ b.stackedCount
        ∧ b.stackedCount = b.plannedCount
      (complete → completionTest n s = closeBundle n .planned s)
        ∧ (¬ complete → completionTest n s = s))
    ∧ ∀ (n : Nat) (s : State),
      let free := pocketState s .a = .free ∨ pocketState s .b = .free
      let waiting (u : State) : State :=
        { u with
          holds :=
            { causes := { u.holds.causes with pocketWait := true }
              raised := { u.holds.raised with pocketWait := true } } }
      (s.stacker.request ≠ none → ¬ free →
          forceForRequest n s = waiting (closeBundle n .forced s))
        ∧ (s.stacker.request = none ∨ free → forceForRequest n s = s)
        ∧ (∀ m, forceChoice s = some m → ∃ k b, bundleIn s k = some b ∧ b.number = m
          ∧ b.state = .held ∧ b.claim = false
          ∧ ∀ c, bundleIn s (otherPocket k) = some c → c.state = .held → c.claim = false →
            holdAge s c ≤ holdAge s b)
        ∧ (forceChoice s = none →
          ∀ k b, bundleIn s k = some b → b.state = .held → b.claim = true)

/-- VERIFY_TIMEOUT takes the entries whose piece has reached V + 3: they leave the expected-read list,
each of their pieces receives NO-READ with a verify result NOREAD, corrected count 0 and grade TIMEOUT,
the last of them is the previous piece, and the print-quality window does not count it. That the row
VERIFY_TIMEOUT makes the mark's test on the state as it stands is log entry 6, the model's choice. The
verify arrival (R94, R100, R107): a PRINTED job passes the carrier step; any other piece receives
NO-PRINT, and its job, unless REFUSED already, becomes CANCELLED, an outstanding one with its CANCEL and
a dispatch; then the piece joins the back of the expected-read list. -/
def Obligations.VerifyTimeoutMarksPieces : Prop :=
  (∀ s : State, s.inputs.reset = false → s.verify.expected.Nodup →
    let due := entriesDue s
    (∀ n, n ∈ due ↔ n ∈ s.verify.expected
        ∧ ∃ p, pieceNumbered s n = some p ∧ s.geometry.v + 3 ≤ position s p)
      ∧ exec .verifyTimeout s = .next
        { s with
          verify :=
            { s.verify with
              expected := s.verify.expected.filter (fun n => n ∉ due)
              previous := due.getLast?.or s.verify.previous }
          tracking :=
            { s.tracking with
              pieces := s.tracking.pieces.map (fun p => if p.number ∈ due then
                { p with
                  verify := some (VerifyResult.mk none 0 .timeout) }.withDefect .noRead .verify
                else p) } })
    ∧ ∀ s : State,
      (pieceAt s s.geometry.v = none → verifyArrival s = s)
      ∧ ∀ p, pieceAt s s.geometry.v = some p →
        let change (f : Piece → Piece) (u : State) : State :=
          { u with
            tracking :=
              { u.tracking with
                pieces := u.tracking.pieces.map (fun q => if q.number = p.number then f q else q) } }
        let joined (u : State) : State :=
          { u with verify := { s.verify with expected := s.verify.expected ++ [p.number] } }
        let cancelled (q : Piece) : Piece := { q with job := .cancelled }
        let noPrint (q : Piece) : Piece := q.withDefect .noPrint .carrier
        let waits (u : State) : State :=
          { u with
            holds :=
              { u.holds with
                causes :=
                  { u.holds.causes with
                    printerWait := u.holds.causes.printerWait
                      && u.tracking.pieces.any (fun q =>
                        q.waiting && (q.job = .due || q.job = .sent)) } } }
        let told := produceCancel p.number s
        (p.job = .printed → verifyArrival s = joined (change (fun q => q.passed .carried) s))
          ∧ (p.job = .refused ∨ p.job = .cancelled → verifyArrival s = joined (change noPrint s))
          ∧ (p.job = .none ∨ p.job = .due →
            verifyArrival s = joined (change noPrint (waits (change cancelled s))))
          ∧ (p.job = .sent ∨ p.job = .accepted → verifyArrival s = joined (change noPrint
            (dispatch (waits (change cancelled
              { told with
                carrier :=
                  { told.carrier with
                    jobs := s.carrier.jobs.filter (fun k => k ≠ p.number) } })))))

/-! ### The printer, the reader and the station inputs -/

/-- ACCEPT makes a SENT job of the list ACCEPTED; PRINTED and REFUSE take a job out of the list in their
state, REFUSE recording the last refusal; PRINTER-WAIT is cleared when no job marked waiting is DUE or
SENT any more, a departure attempts a dispatch, and a hold that this ends is settled. A message that
names no job of the list changes nothing. Settling (R59): a HOLDING line with no hold cause left goes to
the moving state, DRAINING with the drain flag and else RUNNING, with the pitch period absent and the
hold timer stopped where it stands, and then makes the drain test; any other line makes the drain test
alone. -/
def Obligations.PrinterAnswersResolveJobs : Prop :=
  (∀ (n : BitVec 16) (reason : Nat) (s : State), s.inputs.reset = false →
    let pieces (j : JobState) :=
      s.tracking.pieces.map (fun p => if p.number = n then { p with job := j } else p)
    let causes (j : JobState) : HoldSet :=
      if (pieces j).any (fun p => p.waiting && (p.job = .due || p.job = .sent)) then s.holds.causes
      else { s.holds.causes with printerWait := false }
    let left (j : JobState) (c : Carrier) : State :=
      { s with
        tracking := { s.tracking with pieces := pieces j }
        holds := { s.holds with causes := causes j }
        carrier := { c with jobs := c.jobs.filter (fun k => k ≠ n) } }
    (n ∉ s.carrier.jobs → exec (.accept n) s = .next s ∧ exec (.printed n) s = .next s
        ∧ exec (.refuse n reason) s = .next s)
      ∧ (n ∈ s.carrier.jobs →
        (∀ p, pieceNumbered s n = some p →
          (p.job = .sent → exec (.accept n) s = .next (settle
            { s with
              tracking := { s.tracking with pieces := pieces .accepted }
              holds := { s.holds with causes := causes .accepted } }))
          ∧ (p.job ≠ .sent → exec (.accept n) s = .next s))
        ∧ exec (.printed n) s = .next (settle (dispatch (left .printed s.carrier)))
        ∧ exec (.refuse n reason) s = .next (settle (dispatch (left .refused
            { s.carrier with lastRefusal := some (Refused.mk n reason) })))))
    ∧ ∀ s : State,
      (s.line.state = .holding → s.holds.causes = HoldSet.none → settle s = drainTest
        { s with
          line :=
            { s.line with
              state := if s.line.drain = true then .draining else .running
              pause := false
              period := none
              sinceMark := none } })
      ∧ (s.line.state ≠ .holding ∨ s.holds.causes ≠ HoldSet.none → settle s = drainTest s)
      ∧ (s.line.state ≠ .draining ∨ ¬ Drained s → drainTest s = s)

/-- A STATE message of 1 makes the printer READY, which attempts a dispatch when it was not, and one of 0
NOT-READY; a repeat changes nothing. Any other value, and a discarded message, raises the carrier link
error count up to 65,535 and changes no job. A transmission that is complete starts the next waiting
message. -/
def Obligations.PrinterStateAndTransmission : Prop :=
  ∀ s : State, s.inputs.reset = false →
    let ready (b : Bool) : State := { s with carrier := { s.carrier with ready := b } }
    let discarded : State :=
      { s with carrier := { s.carrier with linkErrors :=
        if s.carrier.linkErrors < 65535 then s.carrier.linkErrors + 1 else s.carrier.linkErrors } }
    exec (.printerState 0) s = .next (ready false)
      ∧ (s.carrier.ready = false → exec (.printerState 1) s = .next (dispatch (ready true)))
      ∧ (s.carrier.ready = true → exec (.printerState 1) s = .next s)
      ∧ (∀ v, 1 < v → exec (.printerState v) s = .next discarded)
      ∧ exec .carrierMessageDiscarded s = .next discarded
      ∧ (∀ m rest, s.carrier.waiting = m :: rest → exec .carrierTransmitDone s = .next
        { s with carrier := { s.carrier with transmitting := some m, waiting := rest } })
      ∧ (s.carrier.waiting = [] → exec .carrierTransmitDone s = .next
        { s with carrier := { s.carrier with transmitting := none } })

/-- A dispatch sends DUE jobs in birth order, none while the printer is NOT-READY and never beyond 4
outstanding jobs: the list grows at its back by DUE pieces in birth order, each with its JOB message
behind the messages before it, and no piece born before a sent one is left NONE or DUE. A message
produced goes behind every earlier one, the first goes into transmission at once, and a transmission in
progress stays; a CANCEL takes a JOB still waiting out instead, and a CANCEL ALL every waiting message
(R90). At a pitch mark the NONE jobs at C_off less their lead become DUE, with a dispatch if there is one
(R94, R95); then the job at C_off - 1 makes its wait check (R99), which the adaptation window counts
(R104). -/
def Obligations.DispatchSendsDueJobsInBirthOrder : Prop :=
  (∀ s : State, (s.tracking.pieces.map (fun p => p.number)).Nodup → ∃ sent passed rest,
    s.tracking.pieces = passed ++ rest
      ∧ sent = passed.filter (fun p => p.job = .due)
      ∧ (∀ p ∈ passed, p.job ≠ .none)
      ∧ (dispatch s).carrier.jobs = s.carrier.jobs ++ sent.map (fun p => p.number)
      ∧ (dispatch s).tracking.pieces
        = passed.map (fun p => if p.job = .due then { p with job := .sent } else p) ++ rest
      ∧ (s.carrier.ready = false → sent = [])
      ∧ (s.carrier.jobs.length ≤ 4 → (dispatch s).carrier.jobs.length ≤ 4)
      ∧ (∀ p r, rest = p :: r → p.job = .none ∨ (p.job = .due
          ∧ (s.carrier.ready = false ∨ 4 ≤ (dispatch s).carrier.jobs.length)))
      ∧ (dispatch s).line = s.line ∧ (dispatch s).store = s.store
      ∧ (dispatch s).carrier.transmitting.toList ++ (dispatch s).carrier.waiting
        = s.carrier.transmitting.toList ++ s.carrier.waiting ++ sent.map (fun p =>
          .job p.number (((findRecord s p.key).map (fun r => r.text)).getD []))
      ∧ (∀ m, s.carrier.transmitting = some m → (dispatch s).carrier.transmitting = some m)
      ∧ ((dispatch s).carrier.transmitting = none → sent = []))
    ∧ (∀ (m : PrinterMessage) (n : BitVec 16) (s : State),
      let order (c : Carrier) : List PrinterMessage := c.transmitting.toList ++ c.waiting
      let jobOf (m : PrinterMessage) : Bool := match m with
        | .job k _ => k == n
        | .cancel _ | .cancelAll => false
      order (produce m s).carrier = order s.carrier ++ [m]
        ∧ (produce m s).carrier.transmitting.isSome = true
        ∧ (∀ k, s.carrier.transmitting = some k → (produce m s).carrier.transmitting = some k)
        ∧ produce m s = { s with
          carrier :=
            { s.carrier with
              transmitting := (produce m s).carrier.transmitting
              waiting := (produce m s).carrier.waiting } }
        ∧ (s.carrier.waiting.any jobOf = true → produceCancel n s = { s with
          carrier := { s.carrier with waiting := s.carrier.waiting.filter (fun k => !jobOf k) } })
        ∧ (s.carrier.waiting.any jobOf = false → produceCancel n s = produce (.cancel n) s)
        ∧ order (produceCancelAll s).carrier = s.carrier.transmitting.toList ++ [.cancelAll])
    ∧ (∀ s : State,
      let sent :=
        if s.tracking.pieces.any (fun p =>
            p.job = .none && position s p + p.lead == s.geometry.cOff) then
          dispatch
            { s with
              tracking :=
                { s.tracking with
                  pieces := s.tracking.pieces.map (fun p =>
                    if p.job = .none ∧ position s p + p.lead = s.geometry.cOff then
                      { p with job := .due } else p) } }
        else s
      (pieceAt sent (s.geometry.cOff - 1) = none → printerJobsAtMark s = sent)
      ∧ ∀ p, pieceAt sent (s.geometry.cOff - 1) = some p →
        (p.job = .due ∨ p.job = .sent → printerJobsAtMark s =
          { sent with
            tracking :=
              { sent.tracking with
                pieces := sent.tracking.pieces.map (fun q =>
                  if q.number = p.number then { q with waiting := true } else q) }
            holds :=
              { causes := { sent.holds.causes with printerWait := true }
                raised := { sent.holds.raised with printerWait := true } }
            carrier := sent.carrier.countCheck true })
        ∧ (p.job = .accepted ∨ p.job = .printed → printerJobsAtMark s =
          { sent with carrier := sent.carrier.countCheck false })
        ∧ (p.job = .none ∨ p.job = .refused ∨ p.job = .cancelled → printerJobsAtMark s = sent))
    ∧ ∀ (marked : Bool) (c : Carrier),
      let w := c.waits + marked.toNat
      let lq := if c.waitThreshold ≤ w then c.lq + c.upStep
        else if w = 0 then c.lq - c.downStep else c.lq
      (c.windowCount + 1 < 16 →
          c.countCheck marked = { c with windowCount := c.windowCount + 1, waits := w })
        ∧ (16 ≤ c.windowCount + 1 → c.countCheck marked
          = { c with windowCount := 0, waits := 0, lq := min c.lmax (max c.lmin lq) })

/-- A read in form is judged for the oldest entry of the expected-read list: its grade is the first that
applies, its verify result is written, its entry leaves, it becomes the previous piece, and the
print-quality window counts it; NO-READ and MISMATCH record their defect, GOOD and MARGINAL pass the
verify step. SLIP, for the key of the next or the previous piece, records KEY-MISMATCH on the oldest
piece and on the piece whose key was read, and raises CARRIER-SLIP: FAULTED with WRAP-ABORT for the wrap
zone if the line was moving, in FAULTED a further cause, in IDLE nothing. A read out of form and a
discarded message raise the read link error count, a read that finds the list empty the stray read count.
(A read cannot find a list empty that holds an entry: log entry 21.) -/
def Obligations.ReadsAreJudgedForTheOldestPiece : Prop :=
  (∀ (key : Option Nat) (corrected : Nat) (s : State), s.inputs.reset = false →
    let raised (n : Nat) : Nat := if n < 65535 then n + 1 else n
    let inForm := key ≠ some 0 ∧ corrected ≤ 15
    (¬ inForm → exec (.read key corrected) s = .next
        { s with verify := { s.verify with linkErrors := raised s.verify.linkErrors } })
      ∧ (inForm → s.verify.expected = [] → exec (.read key corrected) s = .next
        { s with verify := { s.verify with strays := raised s.verify.strays } })
      ∧ (inForm → ∀ n rest, s.verify.expected = n :: rest → pieceNumbered s n = none →
        exec (.read key corrected) s = .next s)
      ∧ (inForm → ∀ n rest p, s.verify.expected = n :: rest → n ∉ rest →
        pieceNumbered s n = some p → ∃ t g, exec (.read key corrected) s = .next t
          ∧ t.verify.expected = rest ∧ t.verify.previous = some n
          ∧ (key = some p.key → corrected ≤ s.carrier.marginThreshold → g = .good)
          ∧ (key = some p.key → s.carrier.marginThreshold < corrected → g = .marginal)
          ∧ (key = none → g = .noRead)
          ∧ (key ≠ none → key ≠ some p.key → g = .slip ∨ g = .mismatch)
          ∧ (g = .slip ↔ key ≠ some p.key ∧ ∃ k q, key = some k ∧ slipPiece s k = some q)
          ∧ (∃ q, pieceNumbered t n = some q
            ∧ q.verify = some { key := key, corrected := corrected, grade := g }
            ∧ (g = .good ∨ g = .marginal → q = { p with
                verify := some { key := key, corrected := corrected, grade := g }
                stage := if p.stage.rank < 4 then .verified else p.stage })
            ∧ (g = .noRead → q = { p with
                verify := some (VerifyResult.mk key corrected .noRead) }.withDefect .noRead .verify)
            ∧ (g = .mismatch → q = { p with
                verify := some (VerifyResult.mk key corrected .mismatch)
                }.withDefect .keyMismatch .verify))
          ∧ (g ≠ .slip → t.line = s.line ∧ t.tracking =
            { s.tracking with
              pieces := s.tracking.pieces.map (fun a =>
                if a.number = n then
                  let b := { a with
                    verify := some { key := key, corrected := corrected, grade := g } }
                  if g = .noRead then b.withDefect .noRead .verify
                  else if g = .mismatch then b.withDefect .keyMismatch .verify
                  else b.passed .verified
                else a) })
          ∧ (g = .slip → ∀ k o, key = some k → slipPiece s k = some o →
            o.number ≠ n
            ∧ t.tracking =
              { s.tracking with
                pieces := s.tracking.pieces.map (fun a =>
                  let b : Piece :=
                    if a.number = n then
                      { a with verify := some (VerifyResult.mk key corrected .slip) }.withDefect
                        .keyMismatch .verify
                    else if a.number = o.number then a.withDefect .keyMismatch .verify
                    else a
                  if s.line.state.moving = true ∧ s.geometry.w ≤ position s a
                      ∧ position s a ≤ s.geometry.x then b.withDefect .wrapAbort .wrap
                  else b) }
            ∧ (s.line.state ≠ .idle → s.line.state ≠ .faulted →
              t.line.state = .faulted ∧ t.line.first = some .carrierSlip
                ∧ t.line.further = s.line.further)
            ∧ (s.line.state = .faulted →
              t.line = { s.line with further := s.line.further ||| 64 })
            ∧ (s.line.state = .idle → t.line = s.line))
          ∧ (s.verify.reads < 31 → t.verify.reads = s.verify.reads + 1
            ∧ t.verify.marginals = s.verify.marginals + (if g = .marginal then 1 else 0)
            ∧ (t.verify.printQuality = true
              ↔ s.verify.printQuality = true ∨ 8 ≤ t.verify.marginals))
          ∧ (s.verify.reads = 31 → t.verify.reads = 0 ∧ t.verify.marginals = 0
            ∧ (t.verify.printQuality = true
              ↔ 8 ≤ s.verify.marginals + (if g = .marginal then 1 else 0)))))
    ∧ (∀ (k : Nat) (s : State),
      let slips (o : Piece) : Prop :=
        (∃ n m rest, s.verify.expected = n :: m :: rest ∧ pieceNumbered s m = some o ∧ o.key = k)
          ∨ (∃ m, s.verify.previous = some m ∧ pieceNumbered s m = some o ∧ o.key = k)
      (∀ o, slipPiece s k = some o → slips o) ∧ (slipPiece s k = none → ∀ o, ¬ slips o))
    ∧ ∀ s : State, s.inputs.reset = false →
      exec (.readDiscarded .malformed) s = .next
          { s with
            verify :=
              { s.verify with
                linkErrors :=
                  if s.verify.linkErrors < 65535 then s.verify.linkErrors + 1
                  else s.verify.linkErrors } }
        ∧ (s.verify.expected = [] → exec (.readDiscarded .emptyList) s = .next
          { s with
            verify :=
              { s.verify with
                strays :=
                  if s.verify.strays < 65535 then s.verify.strays + 1 else s.verify.strays } })
        ∧ (s.verify.expected ≠ [] → exec (.readDiscarded .emptyList) s = .next s)

/-- The timing units act at the phases reached. At a count that raises the in-pitch count to `p`, a PULSE
unit whose order begins at `p` asserts its output with its off phase fixed, or, disabled, drops the
order; every pulse ends at its fixed off phase, unless a new one begins there; a WINDOW unit whose open
phase is `p` opens this pitch's window once, and any other window closes at its fixed close phase; a line
that this stops applies pending settings after it: every unit acts first, and the drain test and the
pending settings follow (log entry 30, the model's choice). The time of a count passes before it (log
entry 4, the model's choice). At a pitch mark the pending settings take effect, and the advance and the
effective phases are computed from the period that the mark measured (of a period of 0 µs nothing is
said: log entry 7); an insert is called and the carrier started by the pieces that arrive; a window
closes whose close phase is 0 or whose unit opens the next at 0; and after the mark's events the units
act at phase 0. The act of a phase is that of its units one after the other, in ascending unit number
(log entry 29, the model's choice): a window that closes delivers its result to its station, and one that
opens is the opening of a window that StationResultsAreJudged states. An edge on a station input is
counted, up to 2, by the open window of its unit, if that was opened enabled. -/
def Obligations.UnitsActAtTheirPhases : Prop :=
  let acts (n p : Nat) (pitch : BitVec 32) (before now : TimingUnit) : Prop :=
    let ended := if before.pulse = some p then none else before.pulse
    (isPulse n = true →
        (before.ordered = true → before.effOn = p →
          (before.settings.enable = true →
            now = { before with ordered := false, pulse := some before.effOff })
          ∧ (before.settings.enable = false → now = { before with ordered := false, pulse := ended }))
        ∧ (before.ordered = false ∨ before.effOn ≠ p → now = { before with pulse := ended }))
      ∧ (isPulse n = false →
        (before.opened = false → before.effOn = p →
          ∃ w, now = { before with opened := true, window := some w } ∧ w.pitch = pitch
            ∧ w.enabled = before.settings.enable ∧ w.close = before.effOff ∧ w.edges = 0)
        ∧ (before.opened = true ∨ before.effOn ≠ p → now =
          { before with
            window := if before.window.any (fun w => w.close == p) then none else before.window }))
  (∀ (i : CountInputs) (s : State), s.inputs.reset = false →
    let t := passTime i.elapsed { s with inputs := { s.inputs with gauge := i.gauge } }
    let p := t.line.inPitch + 1
    let c := t.geometry.c
    t.line.backlash = 0 → t.units.length = 19 →
    (p < c →
      let v := phaseReached p { t with line := { t.line with inPitch := p } }
      exec (.encoderForwardCount i) s = .next (settle v)
        ∧ (∀ n, n < 19 → acts n p t.line.pitch (unitAt t n) (unitAt v n))
        ∧ ∀ n, n < 19 → (unitAt v n).pending = none ∨ t.line.state = .stopped
            ∨ (settle v).line.state ≠ .stopped →
          unitAt (settle v) n = unitAt v n)
    ∧ (c ≤ p →
      let v := markEvents t.line.state i.order (markBegun t)
      ∃ u, exec (.encoderForwardCount i) s = .next u ∧ ∀ n, n < 19 →
      let settings := (unitAt t n).pending.getD (unitAt t n).settings
      let before := unitAt v n
      let now := unitAt u n
      let period := if t.line.state.moving = true then
          match t.line.sinceMark with
          | some x => some (min 4294967295 x)
          | none => t.line.period
        else t.line.period
      now.settings = settings ∧ now.pending = none
        ∧ (isPulse n = false ∨ period = none → now.advance = 0)
        ∧ (∀ q, isPulse n = true → period = some q → 10000000 < q → now.advance = 0)
        ∧ (∀ q, isPulse n = true → period = some q → 0 < q → q ≤ 10000000 →
          now.advance = min (c - 1) ((2 * (settings.latency * c) + q) / (2 * q)))
        ∧ now.effOn = settings.on - now.advance
        ∧ now.effOff = (now.effOn + (settings.off + c - settings.on) % c) % c
        ∧ (now.compLimit = true ↔ settings.on < now.advance)
        ∧ acts n 0 (t.line.pitch + 1) before now
        ∧ before.opened = false ∧ before.effOn = now.effOn ∧ before.effOff = now.effOff
        ∧ before.pulse = (unitAt t n).pulse
        ∧ ((unitAt t n).ordered = true → before.ordered = true)
        ∧ (isPulse n = false → before.window =
          if (unitAt t n).window.any (fun w => w.close == 0) = true ∨ before.effOn = 0 then none
          else (unitAt t n).window)))
    ∧ (∀ (p : Nat) (s : State),
      let pulsed (n : Nat) (v : State) : State :=
        { v with
          units := v.units.modify n (fun t =>
            let ended := if t.pulse = some p then none else t.pulse
            if t.ordered = true ∧ t.effOn = p then
              { t with
                ordered := false
                pulse := if t.settings.enable = true then some t.effOff else ended }
            else { t with pulse := ended }) }
      let closed (n : Nat) (v : State) : State :=
        match (unitAt v n).window with
        | none => v
        | some w =>
          if w.close = p then
            deliverResult n w
              { v with units := v.units.modify n (fun t => { t with window := none }) }
          else v
      let opened (n : Nat) (v : State) : State :=
        if (unitAt v n).opened = false ∧ (unitAt v n).effOn = p then openWindow n v else v
      phaseReached p s = (List.range 19).foldl (fun v n =>
          if isPulse n = true then pulsed n v else opened n (closed n v)) s
        ∧ (p = 0 → phaseZero s = (List.range 19).foldl (fun v n =>
          if isPulse n = true then pulsed n v else opened n v) s))
    ∧ (∀ c latency q : Nat, advanceFor c latency none = 0
      ∧ (10000000 < q → advanceFor c latency (some q) = 0)
      ∧ (0 < q → q ≤ 10000000 → advanceFor c latency (some q)
        = min (c - 1) ((2 * (latency * c) + q) / (2 * q))))
    ∧ (∀ s : State,
      let called (i : Nat) : Bool :=
        ((insertOffset s.geometry i).bind (pieceAt s)).any (fun p => p.version.getLsbD i)
      insertArrivals s = { s with
        units := s.units.mapIdx (fun n t => if (2 ≤ n ∧ n ≤ 7) ∧ called (n - 2) = true then
          { t with ordered := true } else t) }
      ∧ (∀ p, pieceAt s s.geometry.cOff = some p → p.job = .accepted ∨ p.job = .printed →
        carrierArrival s = { s with units := s.units.modify 14 (fun t => { t with ordered := true }) })
      ∧ ((∀ p, pieceAt s s.geometry.cOff = some p → p.job ≠ .accepted ∧ p.job ≠ .printed) →
        carrierArrival s = s))
    ∧ ∀ (line : EdgeInput) (s : State), s.inputs.reset = false →
      let u : Nat := match line with
        | .magazine => 1
        | .insert i => i.val + 8
        | .cut => 15
      (∀ t w, s.units[u]? = some t → t.window = some w → w.enabled = true →
          exec (.stationInputEdge line) s = .next
            { s with
              units :=
                s.units.set u { t with window := some { w with edges := min 2 (w.edges + 1) } } })
        ∧ (∀ t, s.units[u]? = some t → (∀ w, t.window = some w → w.enabled = false) →
          exec (.stationInputEdge line) s = .next s)

/-- The results of the windows, each for the piece `p` that stood at the station when the window opened:
the magazine passes one edge, records two as MAG-DOUBLE, and at none (MAG-MISS) the piece leaves with its
job, a SENT or ACCEPTED one with its CANCEL and a dispatch, and its record returns, uncharged, as a
RETURN to the back of the front section, or, with a withdrawal pending, is freed with a departure; a
called insert is delivered at one edge, is INSERT-DOUBLE at two, and at none is INSERT-MISS if required;
the cut passes no edge and records any as CUT-FAULT; the gauge compares GAUGE with the expected thickness
and the tolerance. A disabled window passes the step, and a result
without a piece, or of a window opened without one, changes nothing; any other result changes its piece
alone. A defect (R85): one already found adds nothing, in the list or in the overflow count (log entry
27, DEDUCED), and else is appended to a list of fewer than 4 or raises the overflow count, up to 255. A
step passed (R69): the later stage stands. A
window that opens takes the piece that stands at its unit's station: 0, the offset of a fitted insert, X
or G. The arrival at the wrap former passes the wrap step and records nothing. -/
def Obligations.StationResultsAreJudged : Prop :=
  (∀ (w : OpenWindow) (s : State) (p : Piece), w.piece = some p.number →
    let changed (f : Piece → Piece) : State :=
      { s with
        tracking :=
          { s.tracking with
            pieces := s.tracking.pieces.map (fun q => if q.number = p.number then f q else q) } }
    (pieceNumbered s p.number = none → ∀ u, deliverResult u w s = s)
      ∧ (pieceNumbered s p.number = some p →
        (w.enabled = false ∨ w.edges = 1 → deliverResult 1 w s = changed (fun q => q.passed .fed))
        ∧ (w.enabled = true → 2 ≤ w.edges →
          deliverResult 1 w s = changed (fun q => q.withDefect .magDouble .magazine))
        ∧ (w.enabled = true → w.edges = 0 →
          let waits (u : State) : State :=
            { u with
              holds :=
                { u.holds with
                  causes :=
                    { u.holds.causes with
                      printerWait := u.holds.causes.printerWait && u.tracking.pieces.any (fun q =>
                        q.waiting && (q.job = .due || q.job = .sent)) } } }
          let removed (u : State) : State := waits
            { u with
              tracking :=
                { u.tracking with pieces := u.tracking.pieces.filter (fun q => q.number ≠ p.number) }
              carrier := { u.carrier with jobs := u.carrier.jobs.filter (fun j => j ≠ p.number) }
              verify :=
                { u.verify with
                  previous :=
                    if u.verify.previous = some p.number then none else u.verify.previous } }
          let base := if p.job = .sent ∨ p.job = .accepted then
              dispatch (removed (produceCancel p.number s))
            else removed s
          let front (k : Nat) : Bool := !(findRecord s k).any (fun q => q.kind = .normal)
          pieceNumbered (deliverResult 1 w s) p.number = none
            ∧ ∀ r, findRecord s p.key = some r →
              (r.withdrawPending = false → deliverResult 1 w s =
                { base with
                  store := s.store.map (fun q =>
                    if q.key = p.key then { q with state := .queued, kind := .return } else q)
                  queue :=
                    { s.queue with
                      order := s.queue.order.takeWhile front
                        ++ p.key :: s.queue.order.dropWhile front } })
              ∧ (r.withdrawPending = true → deliverResult 1 w s = depart r
                { base with
                  store := s.store.filter (fun q => q.key ≠ p.key)
                  queue :=
                    { s.queue with order := s.queue.order.filter (fun k => k ≠ p.key) } }))
        ∧ (∀ i : Insert,
          let given (q : Piece) : Piece :=
            { q with delivered := q.delivered ||| BitVec.twoPow 6 i.val }
          let station := i.val + 8
          (p.version.getLsbD i.val = false → deliverResult station w s = s)
          ∧ (p.version.getLsbD i.val = true →
            (w.enabled = false ∨ w.edges = 1 →
              deliverResult station w s = changed (fun q => (given q).passed .collating))
            ∧ (w.enabled = true → 2 ≤ w.edges → deliverResult station w s
              = changed (fun q => (given q).withDefect .insertDouble (.insert i)))
            ∧ (w.enabled = true → w.edges = 0 → (insertAt s.planner i.val).required = true →
              deliverResult station w s = changed (fun q => q.withDefect .insertMiss (.insert i)))
            ∧ (w.enabled = true → w.edges = 0 → (insertAt s.planner i.val).required = false →
              deliverResult station w s = changed (fun q => q.passed .collating))))
        ∧ (w.enabled = false ∨ w.edges = 0 →
          deliverResult 15 w s = changed (fun q => q.passed .cut))
        ∧ (w.enabled = true → 1 ≤ w.edges →
          deliverResult 15 w s = changed (fun q => q.withDefect .cutFault .cut))
        ∧ (w.enabled = false → deliverResult 16 w s = changed (fun q => q.passed .gauged))
        ∧ (w.enabled = true →
          let measured (q : Piece) : Piece := { q with thickness := some s.inputs.gauge }
          let e := thicknessOf s.planner p.delivered
          let t := s.diverter.tolerance
          (s.inputs.gauge + t < e → deliverResult 16 w s
            = changed (fun q => (measured q).withDefect .thickLow .gauge))
          ∧ (e + t < s.inputs.gauge → deliverResult 16 w s
            = changed (fun q => (measured q).withDefect .thickHigh .gauge))
          ∧ (e ≤ s.inputs.gauge + t → s.inputs.gauge ≤ e + t → deliverResult 16 w s
            = changed (fun q => (measured q).passed .gauged)))))
    ∧ (∀ (w : OpenWindow) (s : State), w.piece = none → ∀ u, deliverResult u w s = s)
    ∧ (∀ (cause : DefectCause) (station : DefectStation) (p : Piece),
      let d : Defect := { cause := cause, station := station }
      let found := d ∈ p.defects ∨ d ∈ p.overflowed
      (found → p.withDefect cause station = p)
        ∧ (¬ found → p.defects.length < 4 →
          p.withDefect cause station = { p with defects := p.defects ++ [d] })
        ∧ (¬ found → 4 ≤ p.defects.length → p.withDefect cause station =
          { p with
            overflow := if p.overflow < 255 then p.overflow + 1 else p.overflow
            overflowed := p.overflowed ++ [d] })
        ∧ (p.withDefect cause station).withDefect cause station = p.withDefect cause station)
    ∧ (∀ (stage : Stage) (p : Piece),
      let place (x : Stage) : Nat := [Stage.called, .fed, .collating, .carried, .verified, .wrapped,
        .cut, .gauged, .passing].idxOf x
      p.passed stage = if place p.stage < place stage then { p with stage := stage } else p)
    ∧ (∀ (u : Nat) (s : State) (t : TimingUnit), isPulse u = false → s.units[u]? = some t →
      let opened := openWindow u s
      (t.window = none → opened = { s with
        units := s.units.set u
          { t with
            opened := true
            window := some
              { pitch := s.line.pitch
                enabled := t.settings.enable
                close := t.effOff
                edges := 0
                piece :=
                  ((unitStation s.geometry u).bind (pieceAt s)).map (fun p => p.number) } } })
      ∧ ∀ w, t.window = some w → opened = openWindow u
        (deliverResult u w { s with units := s.units.set u { t with window := none } }))
    ∧ (∀ g : Geometry,
      (g.isSet = false → ∀ u, unitStation g u = none)
      ∧ (g.isSet = true → unitStation g 1 = some 0 ∧ unitStation g 15 = some g.x
        ∧ unitStation g 16 = some g.g
        ∧ ∀ i, i < 6 → unitStation g (i + 8) = if g.fitted.getLsbD i then g.offsets[i]? else none))
    ∧ ∀ s : State,
      (pieceAt s s.geometry.w = none → wrapArrival s = s)
      ∧ ∀ p, pieceAt s s.geometry.w = some p → wrapArrival s =
        { s with
          tracking :=
            { s.tracking with
              pieces := s.tracking.pieces.map (fun q =>
                if q.number = p.number then q.passed .wrapped else q) } }

/-! ### The diverter, the stacker and births -/

/-- The diverter decision: a pending withdrawal rejects the piece to EXCEPTION, WITHDRAWN; a defect
rejects it to the back of the front section as REMAKE below the remake limit, else to EXCEPTION, SPOILED,
with its first defect the record's last; a fit piece passes, claiming a HELD bundle, while its bundle is
FORMING, FILLING or HELD, and goes to HAND, LATE-MADE, when it is EJECTING, CLOSED or freed. WITHDRAWN
and SPOILED are departures. A REJECT orders U17, a HAND U18, each decision raises its count, and, when S
- 1 is D, a PASSING decision makes the pocket look-ahead in its act. -/
def Obligations.DiverterDecidesTheArrival : Prop :=
  (∀ s : State, pieceAt s s.geometry.d = none → diverterArrival s = s)
    ∧ ∀ (s : State) (p : Piece) (r : Record), pieceAt s s.geometry.d = some p →
    findRecord s p.key = some r → s.units.length = 19 →
    let t := diverterArrival s
    let raised (n : Nat) : Nat := if n < 65535 then n + 1 else n
    let gone (gate : Nat) := pieceNumbered t p.number = none ∧ (unitAt t gate).ordered = true
    let bundle := (findBundle s p.bundle).map (fun b => b.state)
    let out (gate : Nat) (d : Diverter) (change : Record → Record) : State :=
      { s with
        store := s.store.map (fun a => if a.key = p.key then change a else a)
        tracking :=
          { s.tracking with pieces := s.tracking.pieces.filter (fun q => q.number ≠ p.number) }
        carrier := { s.carrier with jobs := s.carrier.jobs.filter (fun j => j ≠ p.number) }
        verify :=
          { s.verify with
            previous := if s.verify.previous = some p.number then none else s.verify.previous }
        diverter := d
        units := s.units.modify gate (fun u => { u with ordered := true }) }
    let listed (why : Disposition) (cause : Option DefectCause) (u : State) : State :=
      { u with
        queue := { u.queue with order := u.queue.order.filter (fun k => k ≠ p.key) }
        stacker :=
          { u.stacker with
            exceptions := u.stacker.exceptions
              ++ [ExceptionEntry.mk p.key why cause (some p.number) r.remakeCount] } }
    let look (u : State) : State :=
      if s.geometry.s - 1 = s.geometry.d then lookAheadFor p.bundle u else u
    (r.withdrawPending = true →
        t = depart r (listed .withdrawn none (out 17
            { s.diverter with withdrawn := raised s.diverter.withdrawn }
            (fun a => { a with state := .exception, disposition := some .withdrawn })))
          ∧ gone 17 ∧ t.diverter = { s.diverter with withdrawn := raised s.diverter.withdrawn }
          ∧ ∃ q, findRecord t p.key = some q ∧ q.state = .exception ∧ q.disposition = some .withdrawn
            ∧ q.remakeCount = r.remakeCount ∧ q.lastDefect = r.lastDefect)
      ∧ (r.withdrawPending = false → ∀ d ds, p.defects = d :: ds →
        (r.remakeCount < s.diverter.remakeLimit →
          let back :=
            out 17 { s.diverter with remade := raised s.diverter.remade }
              (fun a =>
                { a with
                  lastDefect := some d.cause
                  remakeCount := a.remakeCount + 1
                  state := .queued
                  kind := .remake })
          t = { back with
              queue :=
                { s.queue with
                  order := s.queue.order.takeWhile (fun k => !isNormal s k)
                    ++ p.key :: s.queue.order.dropWhile (fun k => !isNormal s k) } }
            ∧ gone 17
            ∧ ∃ q, findRecord t p.key = some q ∧ q.state = .queued ∧ q.kind = .remake
              ∧ q.remakeCount = r.remakeCount + 1 ∧ q.lastDefect = some d.cause
              ∧ q.planRef = r.planRef ∧ q.bundle = r.bundle)
        ∧ (s.diverter.remakeLimit ≤ r.remakeCount →
          t = depart r (listed .spoiled (some d.cause) (out 17
              { s.diverter with spoiled := raised s.diverter.spoiled }
              (fun a =>
                { a with
                  lastDefect := some d.cause
                  state := .exception
                  disposition := some .spoiled })))
            ∧ gone 17 ∧ t.diverter = { s.diverter with spoiled := raised s.diverter.spoiled }
            ∧ ∃ q, findRecord t p.key = some q ∧ q.state = .exception
              ∧ q.disposition = some .spoiled ∧ q.remakeCount = r.remakeCount
              ∧ q.lastDefect = some d.cause))
      ∧ (r.withdrawPending = false → p.defects = [] →
        (bundle = some .held → t = look
          { s with
            tracking :=
              { s.tracking with
                pieces := s.tracking.pieces.map (fun q => if q.number = p.number then
                  { q with claim := true }.passed .passing else q) }
            stacker :=
              { s.stacker with
                bundles := s.stacker.bundles.map (fun b => if b.number = p.bundle then
                  { b with claim := true } else b) }
            diverter :=
              { s.diverter with
                passed := raised s.diverter.passed
                claims := raised s.diverter.claims } })
        ∧ (bundle = some .forming ∨ bundle = some .filling → t = look
          { s with
            tracking :=
              { s.tracking with
                pieces := s.tracking.pieces.map (fun q =>
                  if q.number = p.number then q.passed .passing else q) }
            diverter := { s.diverter with passed := raised s.diverter.passed } })
        ∧ (bundle = some .ejecting ∨ bundle = some .closed ∨ bundle = none →
          t = listed .lateMade none (out 18
              { s.diverter with lateMade := raised s.diverter.lateMade }
              (fun a => { a with state := .exception, disposition := some .lateMade }))
            ∧ gone 18))

/-- The stacker arrival: a piece whose bundle is FORMING without a pocket first makes its look-ahead
(R138). A piece whose bundle holds a pocket and is FORMING, FILLING or HELD joins its member list, with
its record STACKED and the stacked count and mass raised; the first member makes the bundle FILLING and
displaces a FILLING bundle of the other pocket, to a close or to HELD (R139); the completion test follows
in the act, and the end of a claim (R141); the drain test waits for the end of the mark (log entry 28,
the model's choice). Else the piece is late: EXCEPTION as LATE-MADE, and the late-at-stacker count rises;
at a FORMING bundle that is a departure. Either way the piece leaves the table. The pocket look-ahead
(R134): a FORMING bundle without a pocket reserves the FREE one, of two the one not reserved last; with
none FREE it sets the request, force-closes the unclaimed HELD bundle of the largest hold age, and raises
POCKET-WAIT if a pocket is then EJECTING. -/
def Obligations.StackerTakesOrExceptsThePiece : Prop :=
  (∀ (s : State) (p : Piece) (r : Record), pieceAt s s.geometry.s = some p →
    findRecord s p.key = some r → p.key ∉ s.queue.order → BundleSafe s →
    let t := stackerArrival s
    let u := lookAheadFor p.bundle s
    let left (state : RecordState) (d : Option Disposition) (v : State) : State :=
      { v with
        store := v.store.map (fun a => if a.key = p.key then
          { a with state := state, disposition := d.or a.disposition } else a)
        tracking :=
          { v.tracking with pieces := v.tracking.pieces.filter (fun q => q.number ≠ p.number) }
        carrier := { v.carrier with jobs := v.carrier.jobs.filter (fun j => j ≠ p.number) }
        verify :=
          { v.verify with
            previous := if v.verify.previous = some p.number then none else v.verify.previous } }
    let late (v : State) : State := left .exception (some .lateMade)
      { v with
        stacker :=
          { v.stacker with
            exceptions := v.stacker.exceptions
              ++ [ExceptionEntry.mk p.key .lateMade none (some p.number) r.remakeCount]
            lateCount :=
              if v.stacker.lateCount < 65535 then v.stacker.lateCount + 1
              else v.stacker.lateCount } }
    (∀ b k, findBundle s p.bundle = some b → b.pocket = some k →
        b.state = .forming ∨ b.state = .filling ∨ b.state = .held →
        pieceNumbered t p.number = none
          ∧ (∃ q, findRecord t p.key = some q ∧ q.state = .stacked)
          ∧ ∃ c, findBundle t b.number = some c ∧ c.members = b.members ++ [p.key]
            ∧ c.stackedCount = b.stackedCount + 1
            ∧ c.stackedMass = b.stackedMass + r.nominalMass ∧ c.state ≠ .forming
            ∧ (b.final = true → b.plannedCount = b.stackedCount + 1 →
              c.state = .ejecting ∧ c.reason = some .planned ∧ c.short = false))
      ∧ (∀ b k, findBundle u p.bundle = some b → b.pocket = some k →
        b.state = .forming ∨ b.state = .filling ∨ b.state = .held →
        let joined := left .stacked none
          { u with
            stacker :=
              { u.stacker with
                bundles := u.stacker.bundles.map (fun c => if c.number = p.bundle then
                  { c with
                    members := c.members ++ [p.key]
                    stackedCount := c.stackedCount + 1
                    stackedMass := c.stackedMass + r.nominalMass
                    state := if c.state = .forming then .filling else c.state } else c) } }
        let tested := completionTest p.bundle
          (if b.state = .forming then displace k joined else joined)
        t = if p.claim = true then endClaim p.bundle tested else tested)
      ∧ ((findBundle s p.bundle).all (fun b => b.state = .ejecting || b.state = .closed) = true →
        t = late s)
      ∧ (∀ b, findBundle u p.bundle = some b → b.pocket = none → b.state = .forming →
        t = depart r (late u)))
    ∧ (∀ (n : Nat) (s : State),
      let idle := ∀ b, findBundle s n = some b → b.state ≠ .forming ∨ b.pocket ≠ none
      let needs := ∃ b, findBundle s n = some b ∧ b.state = .forming ∧ b.pocket = none
      let chosen (k : PocketId) := pocketState s k = .free
        ∧ (pocketState s (otherPocket k) = .free →
          s.stacker.lastReserved = some (otherPocket k)
            ∨ (s.stacker.lastReserved = none ∧ k = .a))
      let asked : State := { s with stacker := { s.stacker with request := some n } }
      let forced := (forceChoice asked).elim asked (fun m => closeBundle m .forced asked)
      (idle → lookAheadFor n s = s)
        ∧ (needs → ∀ k, chosen k → lookAheadFor n s =
          { s with
            stacker :=
              { s.stacker with
                bundles := s.stacker.bundles.map (fun b =>
                  if b.number = n then { b with pocket := some k } else b)
                lastReserved := some k
                request := if s.stacker.request = some n then none else s.stacker.request }
            holds :=
              if s.stacker.request = some n then
                { s.holds with causes := { s.holds.causes with pocketWait := false } }
              else s.holds })
        ∧ (needs → pocketState s .a ≠ .free → pocketState s .b ≠ .free → lookAheadFor n s =
          if pocketState forced .a = .ejecting ∨ pocketState forced .b = .ejecting then
            { forced with
              holds :=
                { causes := { forced.holds.causes with pocketWait := true }
                  raised := { forced.holds.raised with pocketWait := true } } }
          else forced)
        ∧ (s.geometry.s - 1 ≠ s.geometry.d → ∀ p, pieceAt s (s.geometry.s - 1) = some p →
          lookAheadAtMark s = lookAheadFor p.bundle s)
        ∧ (s.geometry.s - 1 = s.geometry.d ∨ pieceAt s (s.geometry.s - 1) = none →
          lookAheadAtMark s = s))
    ∧ (∀ (k : PocketId) (s : State),
      ((∀ b, bundleIn s (otherPocket k) = some b → b.state ≠ .filling) → displace k s = s)
      ∧ ∀ b, bundleIn s (otherPocket k) = some b → b.state = .filling →
        let complete := b.final = true ∧ 1 ≤ b.stackedCount ∧ b.stackedCount = b.plannedCount
        (complete → displace k s = closeBundle b.number .planned s)
        ∧ (¬ complete → s.stacker.holdLimit = 0 → displace k s = closeBundle b.number .holdExpired s)
        ∧ (¬ complete → s.stacker.holdLimit ≠ 0 → displace k s = forceForRequest b.number
          { s with
            stacker :=
              { s.stacker with
                bundles := s.stacker.bundles.map (fun c => if c.number = b.number then
                  { c with
                    state := .held
                    holdStart := some s.line.pitch
                    claim := false } else c) } }))
    ∧ ∀ (n : Nat) (s : State),
      let ends := (∃ b, findBundle s n = some b ∧ b.state = .held)
        ∧ ∀ p ∈ s.tracking.pieces, p.bundle = n → p.claim = false
      (¬ ends → endClaim n s = s)
        ∧ (ends → endClaim n s = forceForRequest n
          { s with
            stacker :=
              { s.stacker with
                bundles := s.stacker.bundles.map (fun c => if c.number = n then
                  { c with claim := false, holdStart := some s.line.pitch } else c) } })

/-- The birth decision (R15, R16, R34 to R38, R71, R72, R74 to R76, R93): none at a mark outside RUNNING
and DRAINING; else the candidate by R15, or a gap with its cause, which changes nothing but the gap count
and cause: NO-CANDIDATE; DRAIN-ONLY; EXCEPTION-LIMIT at 64 entries; PLAN-FULL; BUNDLE-FULL at 24 records;
PLAN-CLOSED, which at the 513th ordinal finalises the current one and marks the plan. A birth: the piece
at position 0, the record IN-FLIGHT and out of the queue, the consecutive-remake birth count, the lead,
the order to U0; before it, by the four cases, a bundle for a WAITING ordinal, a new plan (COMPLETE with
its members divided, or OPEN), or growth, which joins the current ordinal or opens the next; an
end-of-route record finalises its ordinal, and cases 3 and 4 the current ordinal of the OPEN plans of
other routes. The case: by the status of the ordinal that the plan reference names, ALLOCATED or WAITING;
a reference to a RELEASED ordinal counts as absent (R34), and so does one that names an ordinal no record
can be born to, SKIPPED or EMPTIED, or none (log entry 19, the model's reading); then by the ACTIVE plan
of the route, if there is one. A plan is made in the lowest FREE entry. -/
def Obligations.BirthDecisionBearsOrGaps : Prop :=
  let gapped (c : GapCause) (s : State) : State :=
    { s with
      tracking :=
        { s.tracking with
          gapCount :=
            if s.tracking.gapCount < 4294967295 then s.tracking.gapCount + 1
            else s.tracking.gapCount
          lastGap := some c } }
  let born (r : Record) (u : State) : State :=
    let total := u.carrier.accumulator + u.carrier.lq % 4
    { u with
      store := u.store.map (fun q => if q.key = r.key then { q with state := .inFlight } else q)
      queue :=
        { u.queue with
          order := u.queue.order.filter (fun k => k ≠ r.key)
          consecutive :=
            if r.kind = .remake then
              (if u.queue.consecutive < 8 then u.queue.consecutive + 1 else u.queue.consecutive)
            else 0 }
      carrier := { u.carrier with accumulator := if 4 ≤ total then total - 4 else total }
      tracking :=
        { u.tracking with
          pieces := u.tracking.pieces ++
            [{ number := u.tracking.counter
               birthPitch := u.line.pitch
               key := r.key
               version := r.version
               delivered := 0
               remake := decide (1 ≤ r.remakeCount)
               stage := .called
               defects := []
               overflow := 0
               overflowed := []
               job := .none
               lead := if 4 ≤ total then u.carrier.lq / 4 + 1 else u.carrier.lq / 4
               waiting := false
               verify := none
               thickness := none
               bundle := ((findRecord u r.key).bind (fun q => q.bundle)).getD 0
               claim := false }]
          counter := u.tracking.counter + 1 }
      units := u.units.modify 0 (fun t => { t with ordered := true }) }
  let ended (f : PlanRef) (r : Record) (u : State) : State :=
    if r.endOfRoute = true ∧ (ordinalAt u f).any (fun o => !o.final) = true then finaliseOrdinal f u
    else u
  (∀ (m : LineState) (s : State),
    let t := birthDecision m s
    let full := 24 ≤ s.stacker.bundles.length
    (m.moving = false → t = s)
      ∧ (m.moving = true → candidate m s = none → t = gapped .noCandidate s)
      ∧ (∀ r, m = .draining → candidate m s = some r → r.kind = .normal → t = gapped .drainOnly s)
      ∧ ∀ r, candidate m s = some r → m = .running ∨ (m = .draining ∧ r.kind ≠ .normal) →
        (64 ≤ s.stacker.exceptions.length → t = gapped .exceptionLimit s)
        ∧ (s.stacker.exceptions.length < 64 →
          (birthCase s r = .planned → t = born r s)
          ∧ (∀ f, birthCase s r = .waiting f →
            (full → t = gapped .bundleFull s)
            ∧ (¬ full → t = born r (allocateBundle f r.route s)))
          ∧ (birthCase s r = .newRoute →
            (freePlan s = none → t = gapped .planFull s)
            ∧ ∀ i, freePlan s = some i →
              (full → t = gapped .bundleFull s)
              ∧ (¬ full → t = born r (finaliseOthers r.route
                (allocateBundle (PlanRef.mk i 0) r.route (makePlan i r s)))))
          ∧ ∀ i p, birthCase s r = .growing i → planAt s i = some p →
            (p.closedToGrowth = true → t = gapped .planClosed s)
            ∧ (p.closedToGrowth = false → (∀ c n, ¬ JoinsCurrent s p r c n) → 512 ≤ p.sizes.length →
              t = gapped .planClosed (finaliseCurrent i
                { s with
                  planner :=
                    { s.planner with
                      plans := s.planner.plans.set i (some { p with closedToGrowth := true }) } }))
            ∧ (p.closedToGrowth = false → ∀ c n, JoinsCurrent s p r c n →
              t = born r (finaliseOthers r.route (ended (PlanRef.mk i c) r
                { s with
                  planner :=
                    { s.planner with
                      plans := s.planner.plans.set i (some
                        { p with
                          sizes := p.sizes.modify c (fun o =>
                            { o with count := o.count + 1, mass := o.mass + r.nominalMass }) }) }
                  stacker :=
                    { s.stacker with
                      bundles := s.stacker.bundles.map (fun b => if b.number = n then
                        { b with
                          plannedCount := b.plannedCount + 1
                          plannedMass := b.plannedMass + r.nominalMass } else b) }
                  store := s.store.map (fun q => if q.key = r.key then
                    { q with planRef := some (PlanRef.mk i c), bundle := some n } else q) })))
            ∧ (p.closedToGrowth = false → (∀ c n, ¬ JoinsCurrent s p r c n) → p.sizes.length < 512 →
              (full → t = gapped .bundleFull s)
              ∧ (¬ full →
                let f := PlanRef.mk i p.sizes.length
                let grown :=
                  { p with
                    kind := if p.kind = .complete then .complete else .openAt p.sizes.length
                    sizes := p.sizes ++
                      [{ count := 1
                         mass := r.nominalMass
                         final := decide (p.kind = .complete)
                         overmass := decide (p.mmax < r.nominalMass)
                         status := .waiting }] }
                let opened :=
                  { s with
                    planner := { s.planner with plans := s.planner.plans.set i (some grown) } }
                let closed (u : State) : State :=
                  match p.kind with
                  | .complete => u
                  | .openAt c => if (p.sizes[c]?).any (fun o => !o.final) = true then
                      finaliseOrdinal (PlanRef.mk i c) u else u
                t = born r (finaliseOthers r.route (ended f r (allocateBundle f r.route
                  (updateRecord r.key (fun q => { q with planRef := some f, bundle := none })
                    (closed opened)))))))))
    ∧ (∀ (m : LineState) (s : State) (first : Record) (rest : List Record),
      let queued := s.queue.order.filterMap (findRecord s)
      let passed := first.kind = .remake ∧ s.queue.burst ≤ s.queue.consecutive
        ∧ ∃ q ∈ queued, q.kind = .return ∨ (q.kind = .normal ∧ m = .running)
      (queued = [] → candidate m s = none)
        ∧ (queued = first :: rest → ¬ passed → candidate m s = some first)
        ∧ (queued = first :: rest → passed → ∃ q a b, candidate m s = some q
          ∧ queued = a ++ q :: b ∧ q.kind ≠ .remake ∧ ∀ x ∈ a, x.kind = .remake))
    ∧ (∀ (r : Record) (s : State),
      let absent := ∀ f o, r.planRef = some f → ordinalAt s f = some o →
        o.status = .released ∨ o.status = .skipped ∨ o.status = .emptied
      (∀ f o, r.planRef = some f → ordinalAt s f = some o →
          (∀ n, o.status = .allocated n → birthCase s r = .planned)
          ∧ (o.status = .waiting → birthCase s r = .waiting f))
        ∧ (absent → (∀ i p, planAt s i = some p → p.route ≠ r.route) → birthCase s r = .newRoute)
        ∧ (absent → ∀ i p, planAt s i = some p → p.route = r.route →
          (∀ j q, j < i → planAt s j = some q → q.route ≠ r.route) → birthCase s r = .growing i)
        ∧ (unplanned s r = true ↔ absent)
        ∧ (∀ i, freePlan s = some i ↔ i < s.planner.plans.length ∧ planAt s i = none
          ∧ ∀ j, j < i → planAt s j ≠ none)
        ∧ (freePlan s = none ↔ ∀ i, i < s.planner.plans.length → planAt s i ≠ none))
    ∧ (∀ (f : PlanRef) (route : Nat) (s : State) (o : Machine.Ordinal), ordinalAt s f = some o →
      s.stacker.bundles.length < 24 →
      let next (n : Nat) : Nat := if n < 65535 then n + 1 else 1
      ∃ n j, n = next^[j] s.stacker.counter ∧ (∀ b ∈ s.stacker.bundles, b.number ≠ n)
        ∧ (∀ k, k < j → ∃ b ∈ s.stacker.bundles, b.number = next^[k] s.stacker.counter)
        ∧ allocateBundle f route s = updateOrdinal f (fun o => { o with status := .allocated n })
          { s with
            store := s.store.map (fun r =>
              if (r.state = .queued ∨ r.state = .inFlight) ∧ r.planRef = some f then
                { r with bundle := some n } else r)
            stacker :=
              { s.stacker with
                counter := next n
                bundles := s.stacker.bundles ++
                  [{ number := n
                     route := route
                     plan := f.plan
                     ordinal := f.ordinal
                     state := .forming
                     pocket := none
                     plannedCount := o.count
                     plannedMass := o.mass
                     final := o.final
                     overmass := o.overmass
                     stackedCount := 0
                     stackedMass := 0
                     members := []
                     short := false
                     reason := none
                     holdStart := none
                     claim := false }] } })
    ∧ (∀ (f : PlanRef) (s : State) (o : Machine.Ordinal), ordinalAt s f = some o →
      let final := updateOrdinal f (fun o => { o with final := true }) s
      (∀ n, o.status = .allocated n → finaliseOrdinal f s = retirementTest f.plan
          (completionTest n (updateBundle n (fun b => { b with final := true }) final)))
        ∧ ((∀ n, o.status ≠ .allocated n) → finaliseOrdinal f s = retirementTest f.plan final))
    ∧ (∀ (route : Nat) (s : State), ∃ act : State → Nat → State,
      finaliseOthers route s = [0, 1, 2, 3].foldl act s
        ∧ ∀ u i,
          let ends (c : Nat) (p : Plan) := p.kind = .openAt c
            ∧ ∃ o, p.sizes[c]? = some o ∧ o.final = false
          (∀ p c, planAt u i = some p → ends c p →
            finaliseCurrent i u = finaliseOrdinal (PlanRef.mk i c) u
              ∧ act u i = if p.route = route then u else finaliseOrdinal (PlanRef.mk i c) u)
          ∧ ((∀ p c, planAt u i = some p → ¬ ends c p) → finaliseCurrent i u = u ∧ act u i = u))
    ∧ ∀ (i : Nat) (r : Record) (s : State), i < s.planner.plans.length →
      let normal := (s.queue.order.filterMap (findRecord s)).filter (fun q => q.kind = .normal)
      let searched := if r.kind = .normal then normal.dropWhile (fun q => q.key ≠ r.key) else normal
      let complete := ∃ a q b, searched = a ++ q :: b ∧ q.endOfRoute = true ∧ q.route = r.route
        ∧ ∀ x ∈ a, x.route = r.route
      let members := (r :: (s.queue.order.filterMap (findRecord s)).filter (fun q =>
        decide (q.key ≠ r.key) && q.route == r.route && unplanned s q)).take 512
      let groups := divideMembers s.planner.nmax s.planner.mmax members.length members
      let plan (kind : PlanKind) (sizes : List Machine.Ordinal) : Plan :=
        { route := r.route
          kind := kind
          nmax := s.planner.nmax
          mmax := s.planner.mmax
          sizes := sizes
          closedToGrowth := false }
      let t := makePlan i r s
      (complete → planAt t i
          = some (plan .complete (groups.map (ordinalOf s.planner.mmax)))
        ∧ (s.queue.order.Nodup → ∀ g group, groups[g]? = some group → ∀ m ∈ group,
          ∀ q, findRecord s m.key = some q →
            findRecord t m.key = some { q with planRef := some (PlanRef.mk i g) })
        ∧ ∀ k, (∀ m ∈ members, m.key ≠ k) → findRecord t k = findRecord s k)
      ∧ (¬ complete → t = updateRecord r.key
          (fun q => { q with planRef := some (PlanRef.mk i 0) })
          { s with
            planner :=
              { s.planner with
                plans := s.planner.plans.set i (some (plan (.openAt 0)
                  [{ count := 1
                     mass := r.nominalMass
                     final := r.endOfRoute
                     overmass := decide (s.planner.mmax < r.nominalMass)
                     status := .waiting }])) } })

/-- R36. The division of a COMPLETE plan's members: every member stands in one group, in order; each
group is not empty, holds at most Nmax members, and at most Mmax of mass unless it is one member
alone, which is OVERMASS, and its ordinal is WAITING when it is made (R35) and final from then on
(R38); the first group's size is at most the target of R36, and it is smaller only when the next
member would pass Mmax; the remaining members are divided in the same way. -/
def Obligations.CompletePlanDividesItsMembers : Prop :=
  ∀ (nmax mmax : Nat) (rs : List Record), 1 ≤ nmax → 1 ≤ mmax → rs ≠ [] →
    let groups := divideMembers nmax mmax rs.length rs
    let n := rs.length
    let up (a b : Nat) := (a + b - 1) / b
    let size := up n (min n (max (up n nmax) (up (massOf rs) mmax)))
    groups.flatten = rs
      ∧ (∀ g ∈ groups, g ≠ [] ∧ g.length ≤ nmax ∧ (massOf g ≤ mmax ∨ g.length = 1)
        ∧ (ordinalOf mmax g).count = g.length ∧ (ordinalOf mmax g).mass = massOf g
        ∧ ((ordinalOf mmax g).overmass = true ↔ mmax < massOf g)
        ∧ (ordinalOf mmax g).final = true ∧ (ordinalOf mmax g).status = .waiting)
      ∧ ∃ g, groups.head? = some g ∧ g = rs.take g.length ∧ g.length ≤ size ∧ size ≤ nmax
        ∧ (g.length = size ∨ g.length = n
          ∨ ∃ next, rs[g.length]? = some next ∧ mmax < massOf g + next.nominalMass)
        ∧ groups.tail = divideMembers nmax mmax (n - g.length) (rs.drop g.length)

/-! ### Relations that every step keeps -/

/-- The state after reset meets every relation stated below. -/
def Obligations.ResetStateIsSafe : Prop :=
  LineSafe State.reset.line ∧ PhaseSafe State.reset ∧ StoreSafe State.reset
    ∧ BundleSafe State.reset ∧ LeadSafe State.reset.carrier ∧ SettingsSafe State.reset

/-- Every step keeps the relations of the line unit: a first cause stands exactly in FAULTED and further
causes only there, a pending pause and a pitch period only in RUNNING and DRAINING, and DRAINING and the
drain flag agree. -/
def Obligations.StepKeepsLineSafe : Prop :=
  ∀ s t : State, LineSafe s.line → step s = .next t → LineSafe t.line

/-- Every step keeps the subscriber keys of the store distinct and the store within 512 records. -/
def Obligations.StepKeepsStoreSafe : Prop :=
  ∀ s t : State, StoreSafe s → step s = .next t → StoreSafe t

/-- Every step keeps the numbers of allocated bundle records distinct, at most 24 of them, and the plan
table at 4 entries. -/
def Obligations.StepKeepsBundleSafe : Prop :=
  ∀ s t : State, BundleSafe s → step s = .next t → BundleSafe t

/-- Every step keeps the in-pitch count in 0 to C - 1, and the lead in Lmin to Lmax with the accumulator
in 0 to 3 and the adaptation window below an evaluation. -/
def Obligations.StepKeepsPhaseAndLeadSafe : Prop :=
  ∀ s t : State, step s = .next t →
    (PhaseSafe s → PhaseSafe t) ∧ (LeadSafe s.carrier → LeadSafe t.carrier)

/-- Every step keeps every setting, and the values a job setup holds, in the range its rule gives: the
bundle limits, the burst and remake limits and the gauge tolerance, the six settings of the carrier unit,
the three limits of SET HOLD, the low-water and start values, the product settings with the film mass
that follows from them, the six inserts, C, and the settings and pending settings of the 19 timing units.
-/
def Obligations.StepKeepsSettingsSafe : Prop :=
  ∀ s t : State, SettingsSafe s → step s = .next t → SettingsSafe t
end

