-- ==== Sys2Proof/Laws/Lookups.lean ====
section
/-! SUPPORT. Reading a record, a piece or a bundle after an update: what was written is read, and every
other one reads as before; and what a defect or a step passed changes in a piece. -/

namespace Sys2Proof.Machine

/-- A search that looks at a key, in a list changed by a function that keeps every key. -/
theorem find?_map_key {α κ : Type} [BEq κ] [LawfulBEq κ] (key : α → κ) (f : α → α)
    (h : ∀ a, key (f a) = key a) (k : κ) (l : List α) :
    (l.map f).find? (fun a => key a == k) = (l.find? (fun a => key a == k)).map f := by
  induction l with
  | nil => rfl
  | cons a l ih =>
    simp only [List.map_cons, List.find?_cons, h]
    split
    · rfl
    · exact ih

/-- An element found by its key has that key. -/
theorem find?_key {α κ : Type} [BEq κ] [LawfulBEq κ] {key : α → κ} {k : κ} {l : List α} {a : α}
    (h : l.find? (fun a => key a == k) = some a) : key a = k := by
  simpa using List.find?_some h

/-! ### Address records -/

theorem findRecord_key {s : State} {k : Nat} {r : Record} (h : findRecord s k = some r) : r.key = k :=
  find?_key h

theorem findRecord_mem {s : State} {k : Nat} {r : Record} (h : findRecord s k = some r) :
    r ∈ s.store := List.mem_of_find?_eq_some h

theorem findRecord_mapRecords (f : Record → Record) (h : ∀ r, (f r).key = r.key) (k : Nat) (s : State) :
    findRecord (mapRecords f s) k = (findRecord s k).map f :=
  find?_map_key (fun r : Record => r.key) f h k s.store

/-- The record written is the record read. -/
theorem findRecord_updateRecord_same (k : Nat) (f : Record → Record) (h : ∀ r, (f r).key = r.key)
    {s : State} {r : Record} (hr : findRecord s k = some r) :
    findRecord (updateRecord k f s) k = some (f r) := by
  rw [updateRecord, findRecord_mapRecords _ (fun r => by split <;> simp [h]), hr]
  simp [findRecord_key hr]

/-- Every other record reads as before. -/
theorem findRecord_updateRecord_other {k j : Nat} (f : Record → Record) (h : ∀ r, (f r).key = r.key)
    (n : j ≠ k) (s : State) : findRecord (updateRecord k f s) j = findRecord s j := by
  rw [updateRecord, findRecord_mapRecords _ (fun r => by split <;> simp [h])]
  cases e : findRecord s j with
  | none => rfl
  | some r => simp [findRecord_key e, n]

/-- A freed record is held no more. -/
theorem findRecord_freeRecord_same (k : Nat) (s : State) : findRecord (freeRecord k s) k = none := by
  simp [findRecord, freeRecord, dequeue, List.find?_eq_none]

/-- Every other record reads as before a free. -/
theorem findRecord_freeRecord_other {k j : Nat} (n : j ≠ k) (s : State) :
    findRecord (freeRecord k s) j = findRecord s j := by
  simp only [findRecord, freeRecord, dequeue]
  induction s.store with
  | nil => rfl
  | cons r l ih =>
    by_cases e : r.key = k
    · simpa [List.filter_cons, e, List.find?_cons, Ne.symm n] using ih
    · simp only [List.filter_cons, e, ne_eq, not_false_eq_true, decide_true, if_true, List.find?_cons]
      split
      · rfl
      · exact ih

/-! ### Pieces -/

theorem pieceNumbered_number {s : State} {n : BitVec 16} {p : Piece}
    (h : pieceNumbered s n = some p) : p.number = n := find?_key h

/-- The piece written is the piece read. -/
theorem pieceNumbered_updatePiece_same (n : BitVec 16) (f : Piece → Piece)
    (h : ∀ p, (f p).number = p.number) {s : State} {p : Piece} (hp : pieceNumbered s n = some p) :
    pieceNumbered (updatePiece n f s) n = some (f p) := by
  have := find?_map_key (fun p : Piece => p.number) (fun p => if p.number = n then f p else p)
    (fun p => by split <;> simp [h]) n s.tracking.pieces
  refine this.trans ?_
  rw [show s.tracking.pieces.find? (fun p => p.number == n) = some p from hp]
  simp [pieceNumbered_number hp]

/-- A piece removed is in the table no more. -/
theorem pieceNumbered_removePiece (n : BitVec 16) (s : State) :
    pieceNumbered (removePiece n s) n = none := by
  simp [pieceNumbered, removePiece, List.find?_eq_none]

/-! ### Bundles -/

theorem findBundle_number {s : State} {n : Nat} {b : Bundle} (h : findBundle s n = some b) :
    b.number = n := find?_key h

/-- The bundle record written is the one read. -/
theorem findBundle_updateBundle_same (n : Nat) (f : Bundle → Bundle)
    (h : ∀ b, (f b).number = b.number) {s : State} {b : Bundle} (hb : findBundle s n = some b) :
    findBundle (updateBundle n f s) n = some (f b) := by
  have := find?_map_key (fun b : Bundle => b.number) (fun b => if b.number = n then f b else b)
    (fun b => by split <;> simp [h]) n s.stacker.bundles
  refine this.trans ?_
  rw [show s.stacker.bundles.find? (fun b => b.number == n) = some b from hb]
  simp [findBundle_number hb]

/-- Every other bundle record reads as before. -/
theorem findBundle_updateBundle_other {n m : Nat} (f : Bundle → Bundle)
    (h : ∀ b, (f b).number = b.number) (e : m ≠ n) (s : State) :
    findBundle (updateBundle n f s) m = findBundle s m := by
  have := find?_map_key (fun b : Bundle => b.number) (fun b => if b.number = n then f b else b)
    (fun b => by split <;> simp [h]) m s.stacker.bundles
  simp only [findBundle, updateBundle, this]
  cases k : s.stacker.bundles.find? (fun b => b.number == m) with
  | none => rfl
  | some b => simp [find?_key (key := fun b : Bundle => b.number) k, e]

/-! ### One piece changed more than once -/

/-- A defect changes only a piece's defects. -/
theorem Piece.withDefect_eq (cause : DefectCause) (station : DefectStation) (p : Piece) :
    p.withDefect cause station =
      { p with
        defects := (p.withDefect cause station).defects
        overflow := (p.withDefect cause station).overflow
        overflowed := (p.withDefect cause station).overflowed } := by
  unfold Piece.withDefect
  dsimp only
  repeat' split
  all_goals rfl

/-- A step passed changes only a piece's stage. -/
theorem Piece.passed_eq (stage : Stage) (p : Piece) :
    p.passed stage = { p with stage := (p.passed stage).stage } := by
  unfold Piece.passed
  split <;> rfl

@[simp] theorem Piece.withDefect_number (cause : DefectCause) (station : DefectStation) (p : Piece) :
    (p.withDefect cause station).number = p.number := by rw [Piece.withDefect_eq]
@[simp] theorem Piece.withDefect_key (cause : DefectCause) (station : DefectStation) (p : Piece) :
    (p.withDefect cause station).key = p.key := by rw [Piece.withDefect_eq]
@[simp] theorem Piece.withDefect_stage (cause : DefectCause) (station : DefectStation) (p : Piece) :
    (p.withDefect cause station).stage = p.stage := by rw [Piece.withDefect_eq]
@[simp] theorem Piece.passed_number (stage : Stage) (p : Piece) :
    (p.passed stage).number = p.number := by rw [Piece.passed_eq]
@[simp] theorem Piece.passed_key (stage : Stage) (p : Piece) :
    (p.passed stage).key = p.key := by rw [Piece.passed_eq]
@[simp] theorem Piece.passed_defects (stage : Stage) (p : Piece) :
    (p.passed stage).defects = p.defects := by rw [Piece.passed_eq]

/-- Two changes of one piece are one, where the first keeps the piece's number. -/
theorem updatePiece_updatePiece (n : BitVec 16) (f g : Piece → Piece)
    (h : ∀ p, (g p).number = p.number) (s : State) :
    updatePiece n f (updatePiece n g s) = updatePiece n (fun p => f (g p)) s := by
  simp only [updatePiece, mapPieces, List.map_map]
  congr 3
  funext q
  by_cases e : q.number = n <;> simp [e, h]

end Sys2Proof.Machine
end

