-- ==== Sys2Proof/Laws/Acts.lean ====
section
/-! SUPPORT. What the shared acts of the planner and the stacker unit do, once for each: the freeing of
records, a plan entry written, the ends of ordinals, the growth of a plan, and the close of a bundle. -/

namespace Sys2Proof.Machine

/-! ### Records freed -/

/-- Freed records are out of the store and out of the queue; nothing else changes. -/
theorem freeRecords_eq (ks : List Nat) : ∀ s, freeRecords ks s =
    { s with
      store := s.store.filter (fun r => r.key ∉ ks)
      queue := { s.queue with order := s.queue.order.filter (fun k => k ∉ ks) } } := by
  induction ks with
  | nil => intro s; simp [freeRecords]
  | cons k ks ih =>
    intro s
    rw [show freeRecords (k :: ks) s = freeRecords ks (freeRecord k s) from rfl, ih]
    simp [freeRecord, dequeue, List.filter_filter, Bool.and_comm]

/-! ### Plan entries -/

theorem planAt_lt {s : State} {i : Nat} {p : Plan} (h : planAt s i = some p) :
    i < s.planner.plans.length := by
  by_contra hi
  simp [planAt, List.getD_eq_getElem?_getD, List.getElem?_eq_none (Nat.le_of_not_lt hi)] at h

/-- A plan written over an entry is the plan of that entry. -/
theorem planAt_of_set {s t : State} {i : Nat} {p : Plan} (q : Plan)
    (ht : t.planner.plans = s.planner.plans.set i (some q)) (h : planAt s i = some p) :
    planAt t i = some q := by
  simp [planAt, ht, List.getD_eq_getElem?_getD, planAt_lt h]

theorem ordinalAt_of_planAt {s : State} {f : PlanRef} {p : Plan} (h : planAt s f.plan = some p) :
    ordinalAt s f = p.sizes[f.ordinal]? := by
  simp [ordinalAt, h]

/-- An update of an ordinal writes that entry of its plan and nothing else. -/
theorem updateOrdinal_eq {s : State} {f : PlanRef} {p : Plan} {o : Ordinal} (g : Ordinal → Ordinal)
    (h : planAt s f.plan = some p) (ho : p.sizes[f.ordinal]? = some o) :
    updateOrdinal f g s =
      { s with
        planner :=
          { s.planner with
            plans :=
              s.planner.plans.set f.plan (some { p with sizes := p.sizes.set f.ordinal (g o) }) } } := by
  have e : p.sizes.modify f.ordinal g = p.sizes.set f.ordinal (g o) := by
    obtain ⟨hl, ho⟩ := List.getElem?_eq_some_iff.mp ho
    rw [List.modify_eq_set_getElem?]
    simp [hl, ho]
  simp [updateOrdinal, h, setPlan, e]

/-- The retirement test asks each ordinal what `OrdinalEnds` says (R42). -/
theorem ordinalDone_iff (s : State) (o : Ordinal) : ordinalDone s o = true ↔ OrdinalEnds s o := by
  obtain ⟨count, mass, final, overmass, status⟩ := o
  cases status <;> simp [ordinalDone, OrdinalEnds]
  intro _
  cases findBundle s _ <;> simp

/-- The plan that a candidate grows takes it into its current ordinal exactly when `JoinsCurrent` says so
(R37). -/
theorem growthJoins_iff (s : State) (p : Plan) (r : Record) (c : Nat) :
    growthJoins s p r = some c ↔ ∃ n, JoinsCurrent s p r c n := by
  unfold growthJoins JoinsCurrent
  cases p.kind with
  | complete => simp
  | openAt d =>
    simp only [PlanKind.openAt.injEq]
    constructor
    · intro h
      split at h
      · cases h
      next o ho =>
        split at h
        next n hs =>
          split at h
          next hj =>
            cases h
            simp only [Bool.and_eq_true, Bool.not_eq_true', decide_eq_true_eq] at hj
            obtain ⟨⟨⟨hf, hb⟩, hc⟩, hm⟩ := hj
            obtain ⟨b, hb, hst⟩ : ∃ b, findBundle s n = some b
                ∧ (b.state = .forming ∨ b.state = .filling) := by
              cases e : findBundle s n with
              | none => simp [e] at hb
              | some b => exact ⟨b, rfl, by simpa [e] using hb⟩
            exact ⟨n, rfl, o, b, ho, hs, hf, hb, hst, hc, hm⟩
          · cases h
        all_goals cases h
    · rintro ⟨n, rfl, o, b, ho, hs, hf, hb, hst, hc, hm⟩
      simp [ho, hs, hf, hb, hst, hc, hm]

/-! ### The close of a bundle -/

/-- How many exception entries are free for LATE-UNMADE records (R145). -/
def lateRoom (s : State) : Nat := 128 - s.tracking.pieces.length - s.stacker.exceptions.length

/-- The queued REMAKEs of a closing bundle go to EXCEPTION in order, as many as there is room for
(R145). -/
theorem lateUnmades_eq (ks : List Nat) : ∀ s, ks.foldl (fun s k => lateUnmade k s) s =
    { s with
      store := s.store.map (fun r => if r.key ∈ ks.take (lateRoom s) then
        { r with state := .exception, disposition := some .lateUnmade } else r)
      queue :=
        { s.queue with order := s.queue.order.filter (fun k => k ∉ ks.take (lateRoom s)) }
      stacker :=
        { s.stacker with
          exceptions := s.stacker.exceptions ++ (ks.take (lateRoom s)).map (fun k =>
            ExceptionEntry.mk k .lateUnmade ((findRecord s k).bind (fun r => r.lastDefect)) none
              (((findRecord s k).map (fun r => r.remakeCount)).getD 0)) } } := by
  induction ks with
  | nil => intro s; simp
  | cons k ks ih =>
    intro s
    rw [List.foldl_cons, ih]
    by_cases h : s.stacker.exceptions.length < 128 - s.tracking.pieces.length
    · obtain ⟨m, hm⟩ : ∃ m, lateRoom s = m + 1 :=
        ⟨lateRoom s - 1, by unfold lateRoom; omega⟩
      let change (r : Record) : Record :=
        if r.key = k then { r with state := .exception, disposition := some .lateUnmade } else r
      have e : lateUnmade k s
          = enterException k .lateUnmade ((findRecord s k).bind (fun r => r.lastDefect)) none s := by
        simp [lateUnmade, Config.exceptionSlots, h]
      have hm' : lateRoom (lateUnmade k s) = m := by
        rw [e]
        simp only [lateRoom, enterException, updateRecord, mapRecords, dequeue, List.length_append,
          List.length_singleton] at hm ⊢
        omega
      have fr (j : Nat) : findRecord (lateUnmade k s) j = (findRecord s j).map change := by
        rw [e]
        exact findRecord_mapRecords change (fun r => by unfold change; split <;> rfl) j _
      have defect (j : Nat) : (findRecord (lateUnmade k s) j).bind (fun r => r.lastDefect)
          = (findRecord s j).bind (fun r => r.lastDefect) := by
        rw [fr]
        cases findRecord s j <;> simp [change]
        split <;> rfl
      have remakes (j : Nat) : (findRecord (lateUnmade k s) j).map (fun r => r.remakeCount)
          = (findRecord s j).map (fun r => r.remakeCount) := by
        rw [fr]
        cases findRecord s j <;> simp [change]
        split <;> rfl
      rw [hm', hm]
      simp only [defect, remakes]
      rw [e]
      simp [enterException, updateRecord, mapRecords, dequeue, List.filter_filter]
      constructor
      · intro a _
        by_cases c : a.key = k <;> by_cases d : a.key ∈ ks.take m <;> simp [c, d]
      · exact List.filter_congr fun x _ => by simp [Bool.and_comm]
    · have hr : lateRoom s = 0 := by unfold lateRoom; omega
      have e : lateUnmade k s = s := by simp [lateUnmade, Config.exceptionSlots, h]
      simp [e, hr]

/-- A close changes the bundle, the timer of its pocket, and what its queued REMAKEs become (R144, R145). -/
theorem closeBundle_eq {n : Nat} (why : CloseReason) {s : State} {b : Bundle}
    (h : findBundle s n = some b) :
    let timed := match b.pocket with
      | none => updateBundle n (Bundle.closedWith why) s
      | some p => setEjectTimer p EjectTimer.stopped (updateBundle n (Bundle.closedWith why) s)
    closeBundle n why s = (queuedRemakesOf s n).foldl (fun s k => lateUnmade k s) timed := by
  simp only [closeBundle, h]
  cases b.pocket with
  | none => rfl
  | some p => cases p <;> rfl

/-- The completion test closes a complete bundle that is FILLING or HELD, and changes nothing else
(R142). -/
theorem completionTest_cases (n : Nat) (s : State) :
    (∃ b, findBundle s n = some b ∧ (b.state = .filling ∨ b.state = .held) ∧ b.isComplete = true
        ∧ completionTest n s = closeBundle n .planned s)
      ∨ completionTest n s = s := by
  unfold completionTest
  split
  · exact .inr rfl
  next b hb =>
    split
    next h => exact .inl ⟨b, hb, h.1, h.2, rfl⟩
    · exact .inr rfl

/-- A bundle freed without a close changes no plan and no setting of the planner (R148, R155). -/
theorem freeUnclosed_planner (n : Nat) (w : CloseReason) (s : State) :
    (freeUnclosed n w s).planner = s.planner := by
  unfold freeUnclosed
  split
  · rfl
  · simp only [answerRequest, reserve, clearRequest]
    repeat' split
    all_goals rfl

/-- No pocket can be reserved exactly when neither is FREE (R134). -/
theorem choosePocket_isNone_iff (s : State) :
    (choosePocket s).isNone = true ↔ pocketState s .a ≠ .free ∧ pocketState s .b ≠ .free := by
  unfold choosePocket
  cases pocketState s .a <;> cases pocketState s .b <;> simp
  split <;> simp

end Sys2Proof.Machine
end

