-- ==== Sys2Proof/Laws/State.lean ====
section
/-! SUPPORT. The small lemmas of the state: for each update, one lemma for each field, so that no later
proof unfolds a record update. -/

namespace Sys2Proof.Machine

/-! ### Blocks that an update leaves alone -/

@[simp] theorem answer_store (c : ResultCode) (p : List Byte)
    (s : State) : (answer c p s).store = s.store := rfl
@[simp] theorem answer_queue (c : ResultCode) (p : List Byte)
    (s : State) : (answer c p s).queue = s.queue := rfl
@[simp] theorem answer_planner (c : ResultCode) (p : List Byte)
    (s : State) : (answer c p s).planner = s.planner := rfl
@[simp] theorem answer_geometry (c : ResultCode) (p : List Byte)
    (s : State) : (answer c p s).geometry = s.geometry := rfl
@[simp] theorem answer_line (c : ResultCode) (p : List Byte)
    (s : State) : (answer c p s).line = s.line := rfl
@[simp] theorem answer_holds (c : ResultCode) (p : List Byte)
    (s : State) : (answer c p s).holds = s.holds := rfl
@[simp] theorem answer_tracking (c : ResultCode) (p : List Byte)
    (s : State) : (answer c p s).tracking = s.tracking := rfl
@[simp] theorem answer_carrier (c : ResultCode) (p : List Byte)
    (s : State) : (answer c p s).carrier = s.carrier := rfl
@[simp] theorem answer_verify (c : ResultCode) (p : List Byte)
    (s : State) : (answer c p s).verify = s.verify := rfl
@[simp] theorem answer_diverter (c : ResultCode) (p : List Byte)
    (s : State) : (answer c p s).diverter = s.diverter := rfl
@[simp] theorem answer_stacker (c : ResultCode) (p : List Byte)
    (s : State) : (answer c p s).stacker = s.stacker := rfl
@[simp] theorem answer_units (c : ResultCode) (p : List Byte)
    (s : State) : (answer c p s).units = s.units := rfl
@[simp] theorem answer_inputs (c : ResultCode) (p : List Byte)
    (s : State) : (answer c p s).inputs = s.inputs := rfl
@[simp] theorem answer_startup (c : ResultCode) (p : List Byte)
    (s : State) : (answer c p s).startup = s.startup := rfl
@[simp] theorem answer_draws (c : ResultCode) (p : List Byte)
    (s : State) : (answer c p s).draws = s.draws := rfl
@[simp] theorem answer_pending (c : ResultCode) (p : List Byte)
    (s : State) : (answer c p s).pending = s.pending := rfl

@[simp] theorem refuseWith_store (c : ResultCode)
    (s : State) : (refuseWith c s).store = s.store := rfl
@[simp] theorem refuseWith_queue (c : ResultCode)
    (s : State) : (refuseWith c s).queue = s.queue := rfl
@[simp] theorem refuseWith_planner (c : ResultCode)
    (s : State) : (refuseWith c s).planner = s.planner := rfl
@[simp] theorem refuseWith_geometry (c : ResultCode)
    (s : State) : (refuseWith c s).geometry = s.geometry := rfl
@[simp] theorem refuseWith_line (c : ResultCode) (s : State) : (refuseWith c s).line = s.line := rfl
@[simp] theorem refuseWith_holds (c : ResultCode)
    (s : State) : (refuseWith c s).holds = s.holds := rfl
@[simp] theorem refuseWith_tracking (c : ResultCode)
    (s : State) : (refuseWith c s).tracking = s.tracking := rfl
@[simp] theorem refuseWith_carrier (c : ResultCode)
    (s : State) : (refuseWith c s).carrier = s.carrier := rfl
@[simp] theorem refuseWith_verify (c : ResultCode)
    (s : State) : (refuseWith c s).verify = s.verify := rfl
@[simp] theorem refuseWith_diverter (c : ResultCode)
    (s : State) : (refuseWith c s).diverter = s.diverter := rfl
@[simp] theorem refuseWith_stacker (c : ResultCode)
    (s : State) : (refuseWith c s).stacker = s.stacker := rfl
@[simp] theorem refuseWith_units (c : ResultCode)
    (s : State) : (refuseWith c s).units = s.units := rfl
@[simp] theorem refuseWith_inputs (c : ResultCode)
    (s : State) : (refuseWith c s).inputs = s.inputs := rfl
@[simp] theorem refuseWith_startup (c : ResultCode)
    (s : State) : (refuseWith c s).startup = s.startup := rfl
@[simp] theorem refuseWith_draws (c : ResultCode)
    (s : State) : (refuseWith c s).draws = s.draws := rfl
@[simp] theorem refuseWith_pending (c : ResultCode)
    (s : State) : (refuseWith c s).pending = s.pending := rfl

@[simp] theorem emptyLatch_store (s : State) : (emptyLatch s).store = s.store := rfl
@[simp] theorem emptyLatch_queue (s : State) : (emptyLatch s).queue = s.queue := rfl
@[simp] theorem emptyLatch_planner (s : State) : (emptyLatch s).planner = s.planner := rfl
@[simp] theorem emptyLatch_geometry (s : State) : (emptyLatch s).geometry = s.geometry := rfl
@[simp] theorem emptyLatch_line (s : State) : (emptyLatch s).line = s.line := rfl
@[simp] theorem emptyLatch_holds (s : State) : (emptyLatch s).holds = s.holds := rfl
@[simp] theorem emptyLatch_tracking (s : State) : (emptyLatch s).tracking = s.tracking := rfl
@[simp] theorem emptyLatch_carrier (s : State) : (emptyLatch s).carrier = s.carrier := rfl
@[simp] theorem emptyLatch_verify (s : State) : (emptyLatch s).verify = s.verify := rfl
@[simp] theorem emptyLatch_diverter (s : State) : (emptyLatch s).diverter = s.diverter := rfl
@[simp] theorem emptyLatch_stacker (s : State) : (emptyLatch s).stacker = s.stacker := rfl
@[simp] theorem emptyLatch_units (s : State) : (emptyLatch s).units = s.units := rfl
@[simp] theorem emptyLatch_inputs (s : State) : (emptyLatch s).inputs = s.inputs := rfl
@[simp] theorem emptyLatch_startup (s : State) : (emptyLatch s).startup = s.startup := rfl
@[simp] theorem emptyLatch_draws (s : State) : (emptyLatch s).draws = s.draws := rfl
@[simp] theorem emptyLatch_pending (s : State) : (emptyLatch s).pending = s.pending := rfl

@[simp] theorem fillLatch_store (l : SetupLatch)
    (s : State) : (fillLatch l s).store = s.store := rfl
@[simp] theorem fillLatch_queue (l : SetupLatch)
    (s : State) : (fillLatch l s).queue = s.queue := rfl
@[simp] theorem fillLatch_planner (l : SetupLatch)
    (s : State) : (fillLatch l s).planner = s.planner := rfl
@[simp] theorem fillLatch_geometry (l : SetupLatch)
    (s : State) : (fillLatch l s).geometry = s.geometry := rfl
@[simp] theorem fillLatch_line (l : SetupLatch) (s : State) : (fillLatch l s).line = s.line := rfl
@[simp] theorem fillLatch_holds (l : SetupLatch)
    (s : State) : (fillLatch l s).holds = s.holds := rfl
@[simp] theorem fillLatch_tracking (l : SetupLatch)
    (s : State) : (fillLatch l s).tracking = s.tracking := rfl
@[simp] theorem fillLatch_carrier (l : SetupLatch)
    (s : State) : (fillLatch l s).carrier = s.carrier := rfl
@[simp] theorem fillLatch_verify (l : SetupLatch)
    (s : State) : (fillLatch l s).verify = s.verify := rfl
@[simp] theorem fillLatch_diverter (l : SetupLatch)
    (s : State) : (fillLatch l s).diverter = s.diverter := rfl
@[simp] theorem fillLatch_stacker (l : SetupLatch)
    (s : State) : (fillLatch l s).stacker = s.stacker := rfl
@[simp] theorem fillLatch_units (l : SetupLatch)
    (s : State) : (fillLatch l s).units = s.units := rfl
@[simp] theorem fillLatch_inputs (l : SetupLatch)
    (s : State) : (fillLatch l s).inputs = s.inputs := rfl
@[simp] theorem fillLatch_startup (l : SetupLatch)
    (s : State) : (fillLatch l s).startup = s.startup := rfl
@[simp] theorem fillLatch_draws (l : SetupLatch)
    (s : State) : (fillLatch l s).draws = s.draws := rfl
@[simp] theorem fillLatch_pending (l : SetupLatch)
    (s : State) : (fillLatch l s).pending = s.pending := rfl

@[simp] theorem beginOperation_store (o : Operation)
    (s : State) : (beginOperation o s).store = s.store := rfl
@[simp] theorem beginOperation_queue (o : Operation)
    (s : State) : (beginOperation o s).queue = s.queue := rfl
@[simp] theorem beginOperation_planner (o : Operation)
    (s : State) : (beginOperation o s).planner = s.planner := rfl
@[simp] theorem beginOperation_geometry (o : Operation)
    (s : State) : (beginOperation o s).geometry = s.geometry := rfl
@[simp] theorem beginOperation_line (o : Operation)
    (s : State) : (beginOperation o s).line = s.line := rfl
@[simp] theorem beginOperation_holds (o : Operation)
    (s : State) : (beginOperation o s).holds = s.holds := rfl
@[simp] theorem beginOperation_tracking (o : Operation)
    (s : State) : (beginOperation o s).tracking = s.tracking := rfl
@[simp] theorem beginOperation_carrier (o : Operation)
    (s : State) : (beginOperation o s).carrier = s.carrier := rfl
@[simp] theorem beginOperation_verify (o : Operation)
    (s : State) : (beginOperation o s).verify = s.verify := rfl
@[simp] theorem beginOperation_diverter (o : Operation)
    (s : State) : (beginOperation o s).diverter = s.diverter := rfl
@[simp] theorem beginOperation_stacker (o : Operation)
    (s : State) : (beginOperation o s).stacker = s.stacker := rfl
@[simp] theorem beginOperation_units (o : Operation)
    (s : State) : (beginOperation o s).units = s.units := rfl
@[simp] theorem beginOperation_inputs (o : Operation)
    (s : State) : (beginOperation o s).inputs = s.inputs := rfl
@[simp] theorem beginOperation_startup (o : Operation)
    (s : State) : (beginOperation o s).startup = s.startup := rfl
@[simp] theorem beginOperation_draws (o : Operation)
    (s : State) : (beginOperation o s).draws = s.draws := rfl
@[simp] theorem beginOperation_pending (o : Operation)
    (s : State) : (beginOperation o s).pending = s.pending := rfl

@[simp] theorem mapRecords_host (f : Record → Record)
    (s : State) : (mapRecords f s).host = s.host := rfl
@[simp] theorem mapRecords_queue (f : Record → Record)
    (s : State) : (mapRecords f s).queue = s.queue := rfl
@[simp] theorem mapRecords_planner (f : Record → Record)
    (s : State) : (mapRecords f s).planner = s.planner := rfl
@[simp] theorem mapRecords_geometry (f : Record → Record)
    (s : State) : (mapRecords f s).geometry = s.geometry := rfl
@[simp] theorem mapRecords_line (f : Record → Record)
    (s : State) : (mapRecords f s).line = s.line := rfl
@[simp] theorem mapRecords_holds (f : Record → Record)
    (s : State) : (mapRecords f s).holds = s.holds := rfl
@[simp] theorem mapRecords_tracking (f : Record → Record)
    (s : State) : (mapRecords f s).tracking = s.tracking := rfl
@[simp] theorem mapRecords_carrier (f : Record → Record)
    (s : State) : (mapRecords f s).carrier = s.carrier := rfl
@[simp] theorem mapRecords_verify (f : Record → Record)
    (s : State) : (mapRecords f s).verify = s.verify := rfl
@[simp] theorem mapRecords_diverter (f : Record → Record)
    (s : State) : (mapRecords f s).diverter = s.diverter := rfl
@[simp] theorem mapRecords_stacker (f : Record → Record)
    (s : State) : (mapRecords f s).stacker = s.stacker := rfl
@[simp] theorem mapRecords_units (f : Record → Record)
    (s : State) : (mapRecords f s).units = s.units := rfl
@[simp] theorem mapRecords_inputs (f : Record → Record)
    (s : State) : (mapRecords f s).inputs = s.inputs := rfl
@[simp] theorem mapRecords_startup (f : Record → Record)
    (s : State) : (mapRecords f s).startup = s.startup := rfl
@[simp] theorem mapRecords_draws (f : Record → Record)
    (s : State) : (mapRecords f s).draws = s.draws := rfl
@[simp] theorem mapRecords_pending (f : Record → Record)
    (s : State) : (mapRecords f s).pending = s.pending := rfl

@[simp] theorem updateRecord_host (k : Nat) (f : Record → Record)
    (s : State) : (updateRecord k f s).host = s.host := rfl
@[simp] theorem updateRecord_queue (k : Nat) (f : Record → Record)
    (s : State) : (updateRecord k f s).queue = s.queue := rfl
@[simp] theorem updateRecord_planner (k : Nat) (f : Record → Record)
    (s : State) : (updateRecord k f s).planner = s.planner := rfl
@[simp] theorem updateRecord_geometry (k : Nat) (f : Record → Record)
    (s : State) : (updateRecord k f s).geometry = s.geometry := rfl
@[simp] theorem updateRecord_line (k : Nat) (f : Record → Record)
    (s : State) : (updateRecord k f s).line = s.line := rfl
@[simp] theorem updateRecord_holds (k : Nat) (f : Record → Record)
    (s : State) : (updateRecord k f s).holds = s.holds := rfl
@[simp] theorem updateRecord_tracking (k : Nat) (f : Record → Record)
    (s : State) : (updateRecord k f s).tracking = s.tracking := rfl
@[simp] theorem updateRecord_carrier (k : Nat) (f : Record → Record)
    (s : State) : (updateRecord k f s).carrier = s.carrier := rfl
@[simp] theorem updateRecord_verify (k : Nat) (f : Record → Record)
    (s : State) : (updateRecord k f s).verify = s.verify := rfl
@[simp] theorem updateRecord_diverter (k : Nat) (f : Record → Record)
    (s : State) : (updateRecord k f s).diverter = s.diverter := rfl
@[simp] theorem updateRecord_stacker (k : Nat) (f : Record → Record)
    (s : State) : (updateRecord k f s).stacker = s.stacker := rfl
@[simp] theorem updateRecord_units (k : Nat) (f : Record → Record)
    (s : State) : (updateRecord k f s).units = s.units := rfl
@[simp] theorem updateRecord_inputs (k : Nat) (f : Record → Record)
    (s : State) : (updateRecord k f s).inputs = s.inputs := rfl
@[simp] theorem updateRecord_startup (k : Nat) (f : Record → Record)
    (s : State) : (updateRecord k f s).startup = s.startup := rfl
@[simp] theorem updateRecord_draws (k : Nat) (f : Record → Record)
    (s : State) : (updateRecord k f s).draws = s.draws := rfl
@[simp] theorem updateRecord_pending (k : Nat) (f : Record → Record)
    (s : State) : (updateRecord k f s).pending = s.pending := rfl

@[simp] theorem dequeue_host (k : Nat) (s : State) : (dequeue k s).host = s.host := rfl
@[simp] theorem dequeue_store (k : Nat) (s : State) : (dequeue k s).store = s.store := rfl
@[simp] theorem dequeue_planner (k : Nat) (s : State) : (dequeue k s).planner = s.planner := rfl
@[simp] theorem dequeue_geometry (k : Nat) (s : State) : (dequeue k s).geometry = s.geometry := rfl
@[simp] theorem dequeue_line (k : Nat) (s : State) : (dequeue k s).line = s.line := rfl
@[simp] theorem dequeue_holds (k : Nat) (s : State) : (dequeue k s).holds = s.holds := rfl
@[simp] theorem dequeue_tracking (k : Nat) (s : State) : (dequeue k s).tracking = s.tracking := rfl
@[simp] theorem dequeue_carrier (k : Nat) (s : State) : (dequeue k s).carrier = s.carrier := rfl
@[simp] theorem dequeue_verify (k : Nat) (s : State) : (dequeue k s).verify = s.verify := rfl
@[simp] theorem dequeue_diverter (k : Nat) (s : State) : (dequeue k s).diverter = s.diverter := rfl
@[simp] theorem dequeue_stacker (k : Nat) (s : State) : (dequeue k s).stacker = s.stacker := rfl
@[simp] theorem dequeue_units (k : Nat) (s : State) : (dequeue k s).units = s.units := rfl
@[simp] theorem dequeue_inputs (k : Nat) (s : State) : (dequeue k s).inputs = s.inputs := rfl
@[simp] theorem dequeue_startup (k : Nat) (s : State) : (dequeue k s).startup = s.startup := rfl
@[simp] theorem dequeue_draws (k : Nat) (s : State) : (dequeue k s).draws = s.draws := rfl
@[simp] theorem dequeue_pending (k : Nat) (s : State) : (dequeue k s).pending = s.pending := rfl

@[simp] theorem freeRecord_host (k : Nat) (s : State) : (freeRecord k s).host = s.host := rfl
@[simp] theorem freeRecord_planner (k : Nat)
    (s : State) : (freeRecord k s).planner = s.planner := rfl
@[simp] theorem freeRecord_geometry (k : Nat)
    (s : State) : (freeRecord k s).geometry = s.geometry := rfl
@[simp] theorem freeRecord_line (k : Nat) (s : State) : (freeRecord k s).line = s.line := rfl
@[simp] theorem freeRecord_holds (k : Nat) (s : State) : (freeRecord k s).holds = s.holds := rfl
@[simp] theorem freeRecord_tracking (k : Nat)
    (s : State) : (freeRecord k s).tracking = s.tracking := rfl
@[simp] theorem freeRecord_carrier (k : Nat)
    (s : State) : (freeRecord k s).carrier = s.carrier := rfl
@[simp] theorem freeRecord_verify (k : Nat) (s : State) : (freeRecord k s).verify = s.verify := rfl
@[simp] theorem freeRecord_diverter (k : Nat)
    (s : State) : (freeRecord k s).diverter = s.diverter := rfl
@[simp] theorem freeRecord_stacker (k : Nat)
    (s : State) : (freeRecord k s).stacker = s.stacker := rfl
@[simp] theorem freeRecord_units (k : Nat) (s : State) : (freeRecord k s).units = s.units := rfl
@[simp] theorem freeRecord_inputs (k : Nat) (s : State) : (freeRecord k s).inputs = s.inputs := rfl
@[simp] theorem freeRecord_startup (k : Nat) (s : State) : (freeRecord k s).startup = s.startup := rfl
@[simp] theorem freeRecord_draws (k : Nat) (s : State) : (freeRecord k s).draws = s.draws := rfl
@[simp] theorem freeRecord_pending (k : Nat)
    (s : State) : (freeRecord k s).pending = s.pending := rfl

@[simp] theorem requeue_host (k : Nat) (m : Kind) (s : State) : (requeue k m s).host = s.host := rfl
@[simp] theorem requeue_planner (k : Nat) (m : Kind)
    (s : State) : (requeue k m s).planner = s.planner := rfl
@[simp] theorem requeue_geometry (k : Nat) (m : Kind)
    (s : State) : (requeue k m s).geometry = s.geometry := rfl
@[simp] theorem requeue_line (k : Nat) (m : Kind) (s : State) : (requeue k m s).line = s.line := rfl
@[simp] theorem requeue_holds (k : Nat) (m : Kind)
    (s : State) : (requeue k m s).holds = s.holds := rfl
@[simp] theorem requeue_tracking (k : Nat) (m : Kind)
    (s : State) : (requeue k m s).tracking = s.tracking := rfl
@[simp] theorem requeue_carrier (k : Nat) (m : Kind)
    (s : State) : (requeue k m s).carrier = s.carrier := rfl
@[simp] theorem requeue_verify (k : Nat) (m : Kind)
    (s : State) : (requeue k m s).verify = s.verify := rfl
@[simp] theorem requeue_diverter (k : Nat) (m : Kind)
    (s : State) : (requeue k m s).diverter = s.diverter := rfl
@[simp] theorem requeue_stacker (k : Nat) (m : Kind)
    (s : State) : (requeue k m s).stacker = s.stacker := rfl
@[simp] theorem requeue_units (k : Nat) (m : Kind)
    (s : State) : (requeue k m s).units = s.units := rfl
@[simp] theorem requeue_inputs (k : Nat) (m : Kind)
    (s : State) : (requeue k m s).inputs = s.inputs := rfl
@[simp] theorem requeue_startup (k : Nat) (m : Kind)
    (s : State) : (requeue k m s).startup = s.startup := rfl
@[simp] theorem requeue_draws (k : Nat) (m : Kind)
    (s : State) : (requeue k m s).draws = s.draws := rfl
@[simp] theorem requeue_pending (k : Nat) (m : Kind)
    (s : State) : (requeue k m s).pending = s.pending := rfl

@[simp] theorem mapPieces_host (f : Piece → Piece)
    (s : State) : (mapPieces f s).host = s.host := rfl
@[simp] theorem mapPieces_store (f : Piece → Piece)
    (s : State) : (mapPieces f s).store = s.store := rfl
@[simp] theorem mapPieces_queue (f : Piece → Piece)
    (s : State) : (mapPieces f s).queue = s.queue := rfl
@[simp] theorem mapPieces_planner (f : Piece → Piece)
    (s : State) : (mapPieces f s).planner = s.planner := rfl
@[simp] theorem mapPieces_geometry (f : Piece → Piece)
    (s : State) : (mapPieces f s).geometry = s.geometry := rfl
@[simp] theorem mapPieces_line (f : Piece → Piece)
    (s : State) : (mapPieces f s).line = s.line := rfl
@[simp] theorem mapPieces_holds (f : Piece → Piece)
    (s : State) : (mapPieces f s).holds = s.holds := rfl
@[simp] theorem mapPieces_carrier (f : Piece → Piece)
    (s : State) : (mapPieces f s).carrier = s.carrier := rfl
@[simp] theorem mapPieces_verify (f : Piece → Piece)
    (s : State) : (mapPieces f s).verify = s.verify := rfl
@[simp] theorem mapPieces_diverter (f : Piece → Piece)
    (s : State) : (mapPieces f s).diverter = s.diverter := rfl
@[simp] theorem mapPieces_stacker (f : Piece → Piece)
    (s : State) : (mapPieces f s).stacker = s.stacker := rfl
@[simp] theorem mapPieces_units (f : Piece → Piece)
    (s : State) : (mapPieces f s).units = s.units := rfl
@[simp] theorem mapPieces_inputs (f : Piece → Piece)
    (s : State) : (mapPieces f s).inputs = s.inputs := rfl
@[simp] theorem mapPieces_startup (f : Piece → Piece)
    (s : State) : (mapPieces f s).startup = s.startup := rfl
@[simp] theorem mapPieces_draws (f : Piece → Piece)
    (s : State) : (mapPieces f s).draws = s.draws := rfl
@[simp] theorem mapPieces_pending (f : Piece → Piece)
    (s : State) : (mapPieces f s).pending = s.pending := rfl

@[simp] theorem updatePiece_host (n : BitVec 16) (f : Piece → Piece)
    (s : State) : (updatePiece n f s).host = s.host := rfl
@[simp] theorem updatePiece_store (n : BitVec 16) (f : Piece → Piece)
    (s : State) : (updatePiece n f s).store = s.store := rfl
@[simp] theorem updatePiece_queue (n : BitVec 16) (f : Piece → Piece)
    (s : State) : (updatePiece n f s).queue = s.queue := rfl
@[simp] theorem updatePiece_planner (n : BitVec 16) (f : Piece → Piece)
    (s : State) : (updatePiece n f s).planner = s.planner := rfl
@[simp] theorem updatePiece_geometry (n : BitVec 16) (f : Piece → Piece)
    (s : State) : (updatePiece n f s).geometry = s.geometry := rfl
@[simp] theorem updatePiece_line (n : BitVec 16) (f : Piece → Piece)
    (s : State) : (updatePiece n f s).line = s.line := rfl
@[simp] theorem updatePiece_holds (n : BitVec 16) (f : Piece → Piece)
    (s : State) : (updatePiece n f s).holds = s.holds := rfl
@[simp] theorem updatePiece_carrier (n : BitVec 16) (f : Piece → Piece)
    (s : State) : (updatePiece n f s).carrier = s.carrier := rfl
@[simp] theorem updatePiece_verify (n : BitVec 16) (f : Piece → Piece)
    (s : State) : (updatePiece n f s).verify = s.verify := rfl
@[simp] theorem updatePiece_diverter (n : BitVec 16) (f : Piece → Piece)
    (s : State) : (updatePiece n f s).diverter = s.diverter := rfl
@[simp] theorem updatePiece_stacker (n : BitVec 16) (f : Piece → Piece)
    (s : State) : (updatePiece n f s).stacker = s.stacker := rfl
@[simp] theorem updatePiece_units (n : BitVec 16) (f : Piece → Piece)
    (s : State) : (updatePiece n f s).units = s.units := rfl
@[simp] theorem updatePiece_inputs (n : BitVec 16) (f : Piece → Piece)
    (s : State) : (updatePiece n f s).inputs = s.inputs := rfl
@[simp] theorem updatePiece_startup (n : BitVec 16) (f : Piece → Piece)
    (s : State) : (updatePiece n f s).startup = s.startup := rfl
@[simp] theorem updatePiece_draws (n : BitVec 16) (f : Piece → Piece)
    (s : State) : (updatePiece n f s).draws = s.draws := rfl
@[simp] theorem updatePiece_pending (n : BitVec 16) (f : Piece → Piece)
    (s : State) : (updatePiece n f s).pending = s.pending := rfl

@[simp] theorem recordDefect_host (n : BitVec 16) (c : DefectCause) (d : DefectStation)
    (s : State) : (recordDefect n c d s).host = s.host := rfl
@[simp] theorem recordDefect_store (n : BitVec 16) (c : DefectCause) (d : DefectStation)
    (s : State) : (recordDefect n c d s).store = s.store := rfl
@[simp] theorem recordDefect_queue (n : BitVec 16) (c : DefectCause) (d : DefectStation)
    (s : State) : (recordDefect n c d s).queue = s.queue := rfl
@[simp] theorem recordDefect_planner (n : BitVec 16) (c : DefectCause) (d : DefectStation)
    (s : State) : (recordDefect n c d s).planner = s.planner := rfl
@[simp] theorem recordDefect_geometry (n : BitVec 16) (c : DefectCause) (d : DefectStation)
    (s : State) : (recordDefect n c d s).geometry = s.geometry := rfl
@[simp] theorem recordDefect_line (n : BitVec 16) (c : DefectCause) (d : DefectStation)
    (s : State) : (recordDefect n c d s).line = s.line := rfl
@[simp] theorem recordDefect_holds (n : BitVec 16) (c : DefectCause) (d : DefectStation)
    (s : State) : (recordDefect n c d s).holds = s.holds := rfl
@[simp] theorem recordDefect_carrier (n : BitVec 16) (c : DefectCause) (d : DefectStation)
    (s : State) : (recordDefect n c d s).carrier = s.carrier := rfl
@[simp] theorem recordDefect_verify (n : BitVec 16) (c : DefectCause) (d : DefectStation)
    (s : State) : (recordDefect n c d s).verify = s.verify := rfl
@[simp] theorem recordDefect_diverter (n : BitVec 16) (c : DefectCause) (d : DefectStation)
    (s : State) : (recordDefect n c d s).diverter = s.diverter := rfl
@[simp] theorem recordDefect_stacker (n : BitVec 16) (c : DefectCause) (d : DefectStation)
    (s : State) : (recordDefect n c d s).stacker = s.stacker := rfl
@[simp] theorem recordDefect_units (n : BitVec 16) (c : DefectCause) (d : DefectStation)
    (s : State) : (recordDefect n c d s).units = s.units := rfl
@[simp] theorem recordDefect_inputs (n : BitVec 16) (c : DefectCause) (d : DefectStation)
    (s : State) : (recordDefect n c d s).inputs = s.inputs := rfl
@[simp] theorem recordDefect_startup (n : BitVec 16) (c : DefectCause) (d : DefectStation)
    (s : State) : (recordDefect n c d s).startup = s.startup := rfl
@[simp] theorem recordDefect_draws (n : BitVec 16) (c : DefectCause) (d : DefectStation)
    (s : State) : (recordDefect n c d s).draws = s.draws := rfl
@[simp] theorem recordDefect_pending (n : BitVec 16) (c : DefectCause) (d : DefectStation)
    (s : State) : (recordDefect n c d s).pending = s.pending := rfl

@[simp] theorem passStep_host (n : BitVec 16) (g : Stage)
    (s : State) : (passStep n g s).host = s.host := rfl
@[simp] theorem passStep_store (n : BitVec 16) (g : Stage)
    (s : State) : (passStep n g s).store = s.store := rfl
@[simp] theorem passStep_queue (n : BitVec 16) (g : Stage)
    (s : State) : (passStep n g s).queue = s.queue := rfl
@[simp] theorem passStep_planner (n : BitVec 16) (g : Stage)
    (s : State) : (passStep n g s).planner = s.planner := rfl
@[simp] theorem passStep_geometry (n : BitVec 16) (g : Stage)
    (s : State) : (passStep n g s).geometry = s.geometry := rfl
@[simp] theorem passStep_line (n : BitVec 16) (g : Stage)
    (s : State) : (passStep n g s).line = s.line := rfl
@[simp] theorem passStep_holds (n : BitVec 16) (g : Stage)
    (s : State) : (passStep n g s).holds = s.holds := rfl
@[simp] theorem passStep_carrier (n : BitVec 16) (g : Stage)
    (s : State) : (passStep n g s).carrier = s.carrier := rfl
@[simp] theorem passStep_verify (n : BitVec 16) (g : Stage)
    (s : State) : (passStep n g s).verify = s.verify := rfl
@[simp] theorem passStep_diverter (n : BitVec 16) (g : Stage)
    (s : State) : (passStep n g s).diverter = s.diverter := rfl
@[simp] theorem passStep_stacker (n : BitVec 16) (g : Stage)
    (s : State) : (passStep n g s).stacker = s.stacker := rfl
@[simp] theorem passStep_units (n : BitVec 16) (g : Stage)
    (s : State) : (passStep n g s).units = s.units := rfl
@[simp] theorem passStep_inputs (n : BitVec 16) (g : Stage)
    (s : State) : (passStep n g s).inputs = s.inputs := rfl
@[simp] theorem passStep_startup (n : BitVec 16) (g : Stage)
    (s : State) : (passStep n g s).startup = s.startup := rfl
@[simp] theorem passStep_draws (n : BitVec 16) (g : Stage)
    (s : State) : (passStep n g s).draws = s.draws := rfl
@[simp] theorem passStep_pending (n : BitVec 16) (g : Stage)
    (s : State) : (passStep n g s).pending = s.pending := rfl

@[simp] theorem removePiece_host (n : BitVec 16)
    (s : State) : (removePiece n s).host = s.host := rfl
@[simp] theorem removePiece_store (n : BitVec 16)
    (s : State) : (removePiece n s).store = s.store := rfl
@[simp] theorem removePiece_queue (n : BitVec 16)
    (s : State) : (removePiece n s).queue = s.queue := rfl
@[simp] theorem removePiece_planner (n : BitVec 16)
    (s : State) : (removePiece n s).planner = s.planner := rfl
@[simp] theorem removePiece_geometry (n : BitVec 16)
    (s : State) : (removePiece n s).geometry = s.geometry := rfl
@[simp] theorem removePiece_line (n : BitVec 16)
    (s : State) : (removePiece n s).line = s.line := rfl
@[simp] theorem removePiece_holds (n : BitVec 16)
    (s : State) : (removePiece n s).holds = s.holds := rfl
@[simp] theorem removePiece_verify (n : BitVec 16)
    (s : State) : (removePiece n s).verify =
      { s.verify with
        previous := if s.verify.previous = some n then none else s.verify.previous } := rfl
@[simp] theorem removePiece_verify_expected (n : BitVec 16)
    (s : State) : (removePiece n s).verify.expected = s.verify.expected := rfl
@[simp] theorem removePiece_diverter (n : BitVec 16)
    (s : State) : (removePiece n s).diverter = s.diverter := rfl
@[simp] theorem removePiece_stacker (n : BitVec 16)
    (s : State) : (removePiece n s).stacker = s.stacker := rfl
@[simp] theorem removePiece_units (n : BitVec 16)
    (s : State) : (removePiece n s).units = s.units := rfl
@[simp] theorem removePiece_inputs (n : BitVec 16)
    (s : State) : (removePiece n s).inputs = s.inputs := rfl
@[simp] theorem removePiece_startup (n : BitVec 16)
    (s : State) : (removePiece n s).startup = s.startup := rfl
@[simp] theorem removePiece_draws (n : BitVec 16)
    (s : State) : (removePiece n s).draws = s.draws := rfl
@[simp] theorem removePiece_pending (n : BitVec 16)
    (s : State) : (removePiece n s).pending = s.pending := rfl

@[simp] theorem setPlan_host (i : Nat) (p : Option Plan)
    (s : State) : (setPlan i p s).host = s.host := rfl
@[simp] theorem setPlan_store (i : Nat) (p : Option Plan)
    (s : State) : (setPlan i p s).store = s.store := rfl
@[simp] theorem setPlan_queue (i : Nat) (p : Option Plan)
    (s : State) : (setPlan i p s).queue = s.queue := rfl
@[simp] theorem setPlan_geometry (i : Nat) (p : Option Plan)
    (s : State) : (setPlan i p s).geometry = s.geometry := rfl
@[simp] theorem setPlan_line (i : Nat) (p : Option Plan)
    (s : State) : (setPlan i p s).line = s.line := rfl
@[simp] theorem setPlan_holds (i : Nat) (p : Option Plan)
    (s : State) : (setPlan i p s).holds = s.holds := rfl
@[simp] theorem setPlan_tracking (i : Nat) (p : Option Plan)
    (s : State) : (setPlan i p s).tracking = s.tracking := rfl
@[simp] theorem setPlan_carrier (i : Nat) (p : Option Plan)
    (s : State) : (setPlan i p s).carrier = s.carrier := rfl
@[simp] theorem setPlan_verify (i : Nat) (p : Option Plan)
    (s : State) : (setPlan i p s).verify = s.verify := rfl
@[simp] theorem setPlan_diverter (i : Nat) (p : Option Plan)
    (s : State) : (setPlan i p s).diverter = s.diverter := rfl
@[simp] theorem setPlan_stacker (i : Nat) (p : Option Plan)
    (s : State) : (setPlan i p s).stacker = s.stacker := rfl
@[simp] theorem setPlan_units (i : Nat) (p : Option Plan)
    (s : State) : (setPlan i p s).units = s.units := rfl
@[simp] theorem setPlan_inputs (i : Nat) (p : Option Plan)
    (s : State) : (setPlan i p s).inputs = s.inputs := rfl
@[simp] theorem setPlan_startup (i : Nat) (p : Option Plan)
    (s : State) : (setPlan i p s).startup = s.startup := rfl
@[simp] theorem setPlan_draws (i : Nat) (p : Option Plan)
    (s : State) : (setPlan i p s).draws = s.draws := rfl
@[simp] theorem setPlan_pending (i : Nat) (p : Option Plan)
    (s : State) : (setPlan i p s).pending = s.pending := rfl

@[simp] theorem updateBundle_host (n : Nat) (f : Bundle → Bundle)
    (s : State) : (updateBundle n f s).host = s.host := rfl
@[simp] theorem updateBundle_store (n : Nat) (f : Bundle → Bundle)
    (s : State) : (updateBundle n f s).store = s.store := rfl
@[simp] theorem updateBundle_queue (n : Nat) (f : Bundle → Bundle)
    (s : State) : (updateBundle n f s).queue = s.queue := rfl
@[simp] theorem updateBundle_planner (n : Nat) (f : Bundle → Bundle)
    (s : State) : (updateBundle n f s).planner = s.planner := rfl
@[simp] theorem updateBundle_geometry (n : Nat) (f : Bundle → Bundle)
    (s : State) : (updateBundle n f s).geometry = s.geometry := rfl
@[simp] theorem updateBundle_line (n : Nat) (f : Bundle → Bundle)
    (s : State) : (updateBundle n f s).line = s.line := rfl
@[simp] theorem updateBundle_holds (n : Nat) (f : Bundle → Bundle)
    (s : State) : (updateBundle n f s).holds = s.holds := rfl
@[simp] theorem updateBundle_tracking (n : Nat) (f : Bundle → Bundle)
    (s : State) : (updateBundle n f s).tracking = s.tracking := rfl
@[simp] theorem updateBundle_carrier (n : Nat) (f : Bundle → Bundle)
    (s : State) : (updateBundle n f s).carrier = s.carrier := rfl
@[simp] theorem updateBundle_verify (n : Nat) (f : Bundle → Bundle)
    (s : State) : (updateBundle n f s).verify = s.verify := rfl
@[simp] theorem updateBundle_diverter (n : Nat) (f : Bundle → Bundle)
    (s : State) : (updateBundle n f s).diverter = s.diverter := rfl
@[simp] theorem updateBundle_units (n : Nat) (f : Bundle → Bundle)
    (s : State) : (updateBundle n f s).units = s.units := rfl
@[simp] theorem updateBundle_inputs (n : Nat) (f : Bundle → Bundle)
    (s : State) : (updateBundle n f s).inputs = s.inputs := rfl
@[simp] theorem updateBundle_startup (n : Nat) (f : Bundle → Bundle)
    (s : State) : (updateBundle n f s).startup = s.startup := rfl
@[simp] theorem updateBundle_draws (n : Nat) (f : Bundle → Bundle)
    (s : State) : (updateBundle n f s).draws = s.draws := rfl
@[simp] theorem updateBundle_pending (n : Nat) (f : Bundle → Bundle)
    (s : State) : (updateBundle n f s).pending = s.pending := rfl

@[simp] theorem clearPocketWait_host (s : State) : (clearPocketWait s).host = s.host := rfl
@[simp] theorem clearPocketWait_store (s : State) : (clearPocketWait s).store = s.store := rfl
@[simp] theorem clearPocketWait_queue (s : State) : (clearPocketWait s).queue = s.queue := rfl
@[simp] theorem clearPocketWait_planner (s : State) : (clearPocketWait s).planner = s.planner := rfl
@[simp] theorem clearPocketWait_geometry (s : State) : (clearPocketWait s).geometry = s.geometry := rfl
@[simp] theorem clearPocketWait_line (s : State) : (clearPocketWait s).line = s.line := rfl
@[simp] theorem clearPocketWait_tracking (s : State) : (clearPocketWait s).tracking = s.tracking := rfl
@[simp] theorem clearPocketWait_carrier (s : State) : (clearPocketWait s).carrier = s.carrier := rfl
@[simp] theorem clearPocketWait_verify (s : State) : (clearPocketWait s).verify = s.verify := rfl
@[simp] theorem clearPocketWait_diverter (s : State) : (clearPocketWait s).diverter = s.diverter := rfl
@[simp] theorem clearPocketWait_stacker (s : State) : (clearPocketWait s).stacker = s.stacker := rfl
@[simp] theorem clearPocketWait_units (s : State) : (clearPocketWait s).units = s.units := rfl
@[simp] theorem clearPocketWait_inputs (s : State) : (clearPocketWait s).inputs = s.inputs := rfl
@[simp] theorem clearPocketWait_startup (s : State) : (clearPocketWait s).startup = s.startup := rfl
@[simp] theorem clearPocketWait_draws (s : State) : (clearPocketWait s).draws = s.draws := rfl
@[simp] theorem clearPocketWait_pending (s : State) : (clearPocketWait s).pending = s.pending := rfl

@[simp] theorem raisePocketWait_host (s : State) : (raisePocketWait s).host = s.host := rfl
@[simp] theorem raisePocketWait_store (s : State) : (raisePocketWait s).store = s.store := rfl
@[simp] theorem raisePocketWait_queue (s : State) : (raisePocketWait s).queue = s.queue := rfl
@[simp] theorem raisePocketWait_planner (s : State) : (raisePocketWait s).planner = s.planner := rfl
@[simp] theorem raisePocketWait_geometry (s : State) : (raisePocketWait s).geometry = s.geometry := rfl
@[simp] theorem raisePocketWait_line (s : State) : (raisePocketWait s).line = s.line := rfl
@[simp] theorem raisePocketWait_tracking (s : State) : (raisePocketWait s).tracking = s.tracking := rfl
@[simp] theorem raisePocketWait_carrier (s : State) : (raisePocketWait s).carrier = s.carrier := rfl
@[simp] theorem raisePocketWait_verify (s : State) : (raisePocketWait s).verify = s.verify := rfl
@[simp] theorem raisePocketWait_diverter (s : State) : (raisePocketWait s).diverter = s.diverter := rfl
@[simp] theorem raisePocketWait_stacker (s : State) : (raisePocketWait s).stacker = s.stacker := rfl
@[simp] theorem raisePocketWait_units (s : State) : (raisePocketWait s).units = s.units := rfl
@[simp] theorem raisePocketWait_inputs (s : State) : (raisePocketWait s).inputs = s.inputs := rfl
@[simp] theorem raisePocketWait_startup (s : State) : (raisePocketWait s).startup = s.startup := rfl
@[simp] theorem raisePocketWait_draws (s : State) : (raisePocketWait s).draws = s.draws := rfl
@[simp] theorem raisePocketWait_pending (s : State) : (raisePocketWait s).pending = s.pending := rfl

@[simp] theorem clearPrinterWait_host (s : State) : (clearPrinterWait s).host = s.host := rfl
@[simp] theorem clearPrinterWait_store (s : State) : (clearPrinterWait s).store = s.store := rfl
@[simp] theorem clearPrinterWait_queue (s : State) : (clearPrinterWait s).queue = s.queue := rfl
@[simp] theorem clearPrinterWait_planner (s : State) : (clearPrinterWait s).planner = s.planner := rfl
@[simp] theorem clearPrinterWait_geometry (s : State) : (clearPrinterWait s).geometry = s.geometry := rfl
@[simp] theorem clearPrinterWait_line (s : State) : (clearPrinterWait s).line = s.line := rfl
@[simp] theorem clearPrinterWait_tracking (s : State) : (clearPrinterWait s).tracking = s.tracking := rfl
@[simp] theorem clearPrinterWait_carrier (s : State) : (clearPrinterWait s).carrier = s.carrier := rfl
@[simp] theorem clearPrinterWait_verify (s : State) : (clearPrinterWait s).verify = s.verify := rfl
@[simp] theorem clearPrinterWait_diverter (s : State) : (clearPrinterWait s).diverter = s.diverter := rfl
@[simp] theorem clearPrinterWait_stacker (s : State) : (clearPrinterWait s).stacker = s.stacker := rfl
@[simp] theorem clearPrinterWait_units (s : State) : (clearPrinterWait s).units = s.units := rfl
@[simp] theorem clearPrinterWait_inputs (s : State) : (clearPrinterWait s).inputs = s.inputs := rfl
@[simp] theorem clearPrinterWait_startup (s : State) : (clearPrinterWait s).startup = s.startup := rfl
@[simp] theorem clearPrinterWait_draws (s : State) : (clearPrinterWait s).draws = s.draws := rfl
@[simp] theorem clearPrinterWait_pending (s : State) : (clearPrinterWait s).pending = s.pending := rfl

@[simp] theorem raisePrinterWait_host (s : State) : (raisePrinterWait s).host = s.host := rfl
@[simp] theorem raisePrinterWait_store (s : State) : (raisePrinterWait s).store = s.store := rfl
@[simp] theorem raisePrinterWait_queue (s : State) : (raisePrinterWait s).queue = s.queue := rfl
@[simp] theorem raisePrinterWait_planner (s : State) : (raisePrinterWait s).planner = s.planner := rfl
@[simp] theorem raisePrinterWait_geometry (s : State) : (raisePrinterWait s).geometry = s.geometry := rfl
@[simp] theorem raisePrinterWait_line (s : State) : (raisePrinterWait s).line = s.line := rfl
@[simp] theorem raisePrinterWait_tracking (s : State) : (raisePrinterWait s).tracking = s.tracking := rfl
@[simp] theorem raisePrinterWait_carrier (s : State) : (raisePrinterWait s).carrier = s.carrier := rfl
@[simp] theorem raisePrinterWait_verify (s : State) : (raisePrinterWait s).verify = s.verify := rfl
@[simp] theorem raisePrinterWait_diverter (s : State) : (raisePrinterWait s).diverter = s.diverter := rfl
@[simp] theorem raisePrinterWait_stacker (s : State) : (raisePrinterWait s).stacker = s.stacker := rfl
@[simp] theorem raisePrinterWait_units (s : State) : (raisePrinterWait s).units = s.units := rfl
@[simp] theorem raisePrinterWait_inputs (s : State) : (raisePrinterWait s).inputs = s.inputs := rfl
@[simp] theorem raisePrinterWait_startup (s : State) : (raisePrinterWait s).startup = s.startup := rfl
@[simp] theorem raisePrinterWait_draws (s : State) : (raisePrinterWait s).draws = s.draws := rfl
@[simp] theorem raisePrinterWait_pending (s : State) : (raisePrinterWait s).pending = s.pending := rfl

@[simp] theorem updateUnit_host (u : Nat) (f : TimingUnit → TimingUnit)
    (s : State) : (updateUnit u f s).host = s.host := rfl
@[simp] theorem updateUnit_store (u : Nat) (f : TimingUnit → TimingUnit)
    (s : State) : (updateUnit u f s).store = s.store := rfl
@[simp] theorem updateUnit_queue (u : Nat) (f : TimingUnit → TimingUnit)
    (s : State) : (updateUnit u f s).queue = s.queue := rfl
@[simp] theorem updateUnit_planner (u : Nat) (f : TimingUnit → TimingUnit)
    (s : State) : (updateUnit u f s).planner = s.planner := rfl
@[simp] theorem updateUnit_geometry (u : Nat) (f : TimingUnit → TimingUnit)
    (s : State) : (updateUnit u f s).geometry = s.geometry := rfl
@[simp] theorem updateUnit_line (u : Nat) (f : TimingUnit → TimingUnit)
    (s : State) : (updateUnit u f s).line = s.line := rfl
@[simp] theorem updateUnit_holds (u : Nat) (f : TimingUnit → TimingUnit)
    (s : State) : (updateUnit u f s).holds = s.holds := rfl
@[simp] theorem updateUnit_tracking (u : Nat) (f : TimingUnit → TimingUnit)
    (s : State) : (updateUnit u f s).tracking = s.tracking := rfl
@[simp] theorem updateUnit_carrier (u : Nat) (f : TimingUnit → TimingUnit)
    (s : State) : (updateUnit u f s).carrier = s.carrier := rfl
@[simp] theorem updateUnit_verify (u : Nat) (f : TimingUnit → TimingUnit)
    (s : State) : (updateUnit u f s).verify = s.verify := rfl
@[simp] theorem updateUnit_diverter (u : Nat) (f : TimingUnit → TimingUnit)
    (s : State) : (updateUnit u f s).diverter = s.diverter := rfl
@[simp] theorem updateUnit_stacker (u : Nat) (f : TimingUnit → TimingUnit)
    (s : State) : (updateUnit u f s).stacker = s.stacker := rfl
@[simp] theorem updateUnit_inputs (u : Nat) (f : TimingUnit → TimingUnit)
    (s : State) : (updateUnit u f s).inputs = s.inputs := rfl
@[simp] theorem updateUnit_startup (u : Nat) (f : TimingUnit → TimingUnit)
    (s : State) : (updateUnit u f s).startup = s.startup := rfl
@[simp] theorem updateUnit_draws (u : Nat) (f : TimingUnit → TimingUnit)
    (s : State) : (updateUnit u f s).draws = s.draws := rfl
@[simp] theorem updateUnit_pending (u : Nat) (f : TimingUnit → TimingUnit)
    (s : State) : (updateUnit u f s).pending = s.pending := rfl

@[simp] theorem giveOrder_host (u : Nat) (s : State) : (giveOrder u s).host = s.host := rfl
@[simp] theorem giveOrder_store (u : Nat) (s : State) : (giveOrder u s).store = s.store := rfl
@[simp] theorem giveOrder_queue (u : Nat) (s : State) : (giveOrder u s).queue = s.queue := rfl
@[simp] theorem giveOrder_planner (u : Nat) (s : State) : (giveOrder u s).planner = s.planner := rfl
@[simp] theorem giveOrder_geometry (u : Nat)
    (s : State) : (giveOrder u s).geometry = s.geometry := rfl
@[simp] theorem giveOrder_line (u : Nat) (s : State) : (giveOrder u s).line = s.line := rfl
@[simp] theorem giveOrder_holds (u : Nat) (s : State) : (giveOrder u s).holds = s.holds := rfl
@[simp] theorem giveOrder_tracking (u : Nat)
    (s : State) : (giveOrder u s).tracking = s.tracking := rfl
@[simp] theorem giveOrder_carrier (u : Nat) (s : State) : (giveOrder u s).carrier = s.carrier := rfl
@[simp] theorem giveOrder_verify (u : Nat) (s : State) : (giveOrder u s).verify = s.verify := rfl
@[simp] theorem giveOrder_diverter (u : Nat)
    (s : State) : (giveOrder u s).diverter = s.diverter := rfl
@[simp] theorem giveOrder_stacker (u : Nat) (s : State) : (giveOrder u s).stacker = s.stacker := rfl
@[simp] theorem giveOrder_inputs (u : Nat) (s : State) : (giveOrder u s).inputs = s.inputs := rfl
@[simp] theorem giveOrder_startup (u : Nat) (s : State) : (giveOrder u s).startup = s.startup := rfl
@[simp] theorem giveOrder_draws (u : Nat) (s : State) : (giveOrder u s).draws = s.draws := rfl
@[simp] theorem giveOrder_pending (u : Nat) (s : State) : (giveOrder u s).pending = s.pending := rfl

@[simp] theorem enterLine_host (t : LineState) (s : State) : (enterLine t s).host = s.host := rfl
@[simp] theorem enterLine_store (t : LineState) (s : State) : (enterLine t s).store = s.store := rfl
@[simp] theorem enterLine_queue (t : LineState) (s : State) : (enterLine t s).queue = s.queue := rfl
@[simp] theorem enterLine_planner (t : LineState)
    (s : State) : (enterLine t s).planner = s.planner := rfl
@[simp] theorem enterLine_geometry (t : LineState)
    (s : State) : (enterLine t s).geometry = s.geometry := rfl
@[simp] theorem enterLine_holds (t : LineState) (s : State) : (enterLine t s).holds = s.holds := rfl
@[simp] theorem enterLine_tracking (t : LineState)
    (s : State) : (enterLine t s).tracking = s.tracking := rfl
@[simp] theorem enterLine_carrier (t : LineState)
    (s : State) : (enterLine t s).carrier = s.carrier := rfl
@[simp] theorem enterLine_verify (t : LineState)
    (s : State) : (enterLine t s).verify = s.verify := rfl
@[simp] theorem enterLine_diverter (t : LineState)
    (s : State) : (enterLine t s).diverter = s.diverter := rfl
@[simp] theorem enterLine_stacker (t : LineState)
    (s : State) : (enterLine t s).stacker = s.stacker := rfl
@[simp] theorem enterLine_units (t : LineState) (s : State) : (enterLine t s).units = s.units := rfl
@[simp] theorem enterLine_inputs (t : LineState)
    (s : State) : (enterLine t s).inputs = s.inputs := rfl
@[simp] theorem enterLine_startup (t : LineState)
    (s : State) : (enterLine t s).startup = s.startup := rfl
@[simp] theorem enterLine_draws (t : LineState) (s : State) : (enterLine t s).draws = s.draws := rfl
@[simp] theorem enterLine_pending (t : LineState)
    (s : State) : (enterLine t s).pending = s.pending := rfl

@[simp] theorem setDrain_host (s : State) : (setDrain s).host = s.host := rfl
@[simp] theorem setDrain_store (s : State) : (setDrain s).store = s.store := rfl
@[simp] theorem setDrain_queue (s : State) : (setDrain s).queue = s.queue := rfl
@[simp] theorem setDrain_planner (s : State) : (setDrain s).planner = s.planner := rfl
@[simp] theorem setDrain_geometry (s : State) : (setDrain s).geometry = s.geometry := rfl
@[simp] theorem setDrain_holds (s : State) : (setDrain s).holds = s.holds := rfl
@[simp] theorem setDrain_tracking (s : State) : (setDrain s).tracking = s.tracking := rfl
@[simp] theorem setDrain_carrier (s : State) : (setDrain s).carrier = s.carrier := rfl
@[simp] theorem setDrain_verify (s : State) : (setDrain s).verify = s.verify := rfl
@[simp] theorem setDrain_diverter (s : State) : (setDrain s).diverter = s.diverter := rfl
@[simp] theorem setDrain_stacker (s : State) : (setDrain s).stacker = s.stacker := rfl
@[simp] theorem setDrain_units (s : State) : (setDrain s).units = s.units := rfl
@[simp] theorem setDrain_inputs (s : State) : (setDrain s).inputs = s.inputs := rfl
@[simp] theorem setDrain_startup (s : State) : (setDrain s).startup = s.startup := rfl
@[simp] theorem setDrain_draws (s : State) : (setDrain s).draws = s.draws := rfl
@[simp] theorem setDrain_pending (s : State) : (setDrain s).pending = s.pending := rfl

@[simp] theorem clearCauses_host (s : State) : (clearCauses s).host = s.host := rfl
@[simp] theorem clearCauses_store (s : State) : (clearCauses s).store = s.store := rfl
@[simp] theorem clearCauses_queue (s : State) : (clearCauses s).queue = s.queue := rfl
@[simp] theorem clearCauses_planner (s : State) : (clearCauses s).planner = s.planner := rfl
@[simp] theorem clearCauses_geometry (s : State) : (clearCauses s).geometry = s.geometry := rfl
@[simp] theorem clearCauses_holds (s : State) : (clearCauses s).holds = s.holds := rfl
@[simp] theorem clearCauses_tracking (s : State) : (clearCauses s).tracking = s.tracking := rfl
@[simp] theorem clearCauses_carrier (s : State) : (clearCauses s).carrier = s.carrier := rfl
@[simp] theorem clearCauses_verify (s : State) : (clearCauses s).verify = s.verify := rfl
@[simp] theorem clearCauses_diverter (s : State) : (clearCauses s).diverter = s.diverter := rfl
@[simp] theorem clearCauses_stacker (s : State) : (clearCauses s).stacker = s.stacker := rfl
@[simp] theorem clearCauses_units (s : State) : (clearCauses s).units = s.units := rfl
@[simp] theorem clearCauses_inputs (s : State) : (clearCauses s).inputs = s.inputs := rfl
@[simp] theorem clearCauses_startup (s : State) : (clearCauses s).startup = s.startup := rfl
@[simp] theorem clearCauses_draws (s : State) : (clearCauses s).draws = s.draws := rfl
@[simp] theorem clearCauses_pending (s : State) : (clearCauses s).pending = s.pending := rfl

@[simp] theorem countDiversion_host (c : DiverterCount)
    (s : State) : (countDiversion c s).host = s.host := rfl
@[simp] theorem countDiversion_store (c : DiverterCount)
    (s : State) : (countDiversion c s).store = s.store := rfl
@[simp] theorem countDiversion_queue (c : DiverterCount)
    (s : State) : (countDiversion c s).queue = s.queue := rfl
@[simp] theorem countDiversion_planner (c : DiverterCount)
    (s : State) : (countDiversion c s).planner = s.planner := rfl
@[simp] theorem countDiversion_geometry (c : DiverterCount)
    (s : State) : (countDiversion c s).geometry = s.geometry := rfl
@[simp] theorem countDiversion_line (c : DiverterCount)
    (s : State) : (countDiversion c s).line = s.line := rfl
@[simp] theorem countDiversion_holds (c : DiverterCount)
    (s : State) : (countDiversion c s).holds = s.holds := rfl
@[simp] theorem countDiversion_tracking (c : DiverterCount)
    (s : State) : (countDiversion c s).tracking = s.tracking := rfl
@[simp] theorem countDiversion_carrier (c : DiverterCount)
    (s : State) : (countDiversion c s).carrier = s.carrier := rfl
@[simp] theorem countDiversion_verify (c : DiverterCount)
    (s : State) : (countDiversion c s).verify = s.verify := rfl
@[simp] theorem countDiversion_stacker (c : DiverterCount)
    (s : State) : (countDiversion c s).stacker = s.stacker := rfl
@[simp] theorem countDiversion_units (c : DiverterCount)
    (s : State) : (countDiversion c s).units = s.units := rfl
@[simp] theorem countDiversion_inputs (c : DiverterCount)
    (s : State) : (countDiversion c s).inputs = s.inputs := rfl
@[simp] theorem countDiversion_startup (c : DiverterCount)
    (s : State) : (countDiversion c s).startup = s.startup := rfl
@[simp] theorem countDiversion_draws (c : DiverterCount)
    (s : State) : (countDiversion c s).draws = s.draws := rfl
@[simp] theorem countDiversion_pending (c : DiverterCount)
    (s : State) : (countDiversion c s).pending = s.pending := rfl

@[simp] theorem discardMessage_host (s : State) : (discardMessage s).host = s.host := rfl
@[simp] theorem discardMessage_store (s : State) : (discardMessage s).store = s.store := rfl
@[simp] theorem discardMessage_queue (s : State) : (discardMessage s).queue = s.queue := rfl
@[simp] theorem discardMessage_planner (s : State) : (discardMessage s).planner = s.planner := rfl
@[simp] theorem discardMessage_geometry (s : State) : (discardMessage s).geometry = s.geometry := rfl
@[simp] theorem discardMessage_line (s : State) : (discardMessage s).line = s.line := rfl
@[simp] theorem discardMessage_holds (s : State) : (discardMessage s).holds = s.holds := rfl
@[simp] theorem discardMessage_tracking (s : State) : (discardMessage s).tracking = s.tracking := rfl
@[simp] theorem discardMessage_verify (s : State) : (discardMessage s).verify = s.verify := rfl
@[simp] theorem discardMessage_diverter (s : State) : (discardMessage s).diverter = s.diverter := rfl
@[simp] theorem discardMessage_stacker (s : State) : (discardMessage s).stacker = s.stacker := rfl
@[simp] theorem discardMessage_units (s : State) : (discardMessage s).units = s.units := rfl
@[simp] theorem discardMessage_inputs (s : State) : (discardMessage s).inputs = s.inputs := rfl
@[simp] theorem discardMessage_startup (s : State) : (discardMessage s).startup = s.startup := rfl
@[simp] theorem discardMessage_draws (s : State) : (discardMessage s).draws = s.draws := rfl
@[simp] theorem discardMessage_pending (s : State) : (discardMessage s).pending = s.pending := rfl

@[simp] theorem discardRead_host (s : State) : (discardRead s).host = s.host := rfl
@[simp] theorem discardRead_store (s : State) : (discardRead s).store = s.store := rfl
@[simp] theorem discardRead_queue (s : State) : (discardRead s).queue = s.queue := rfl
@[simp] theorem discardRead_planner (s : State) : (discardRead s).planner = s.planner := rfl
@[simp] theorem discardRead_geometry (s : State) : (discardRead s).geometry = s.geometry := rfl
@[simp] theorem discardRead_line (s : State) : (discardRead s).line = s.line := rfl
@[simp] theorem discardRead_holds (s : State) : (discardRead s).holds = s.holds := rfl
@[simp] theorem discardRead_tracking (s : State) : (discardRead s).tracking = s.tracking := rfl
@[simp] theorem discardRead_carrier (s : State) : (discardRead s).carrier = s.carrier := rfl
@[simp] theorem discardRead_diverter (s : State) : (discardRead s).diverter = s.diverter := rfl
@[simp] theorem discardRead_stacker (s : State) : (discardRead s).stacker = s.stacker := rfl
@[simp] theorem discardRead_units (s : State) : (discardRead s).units = s.units := rfl
@[simp] theorem discardRead_inputs (s : State) : (discardRead s).inputs = s.inputs := rfl
@[simp] theorem discardRead_startup (s : State) : (discardRead s).startup = s.startup := rfl
@[simp] theorem discardRead_draws (s : State) : (discardRead s).draws = s.draws := rfl
@[simp] theorem discardRead_pending (s : State) : (discardRead s).pending = s.pending := rfl

@[simp] theorem strayRead_host (s : State) : (strayRead s).host = s.host := rfl
@[simp] theorem strayRead_store (s : State) : (strayRead s).store = s.store := rfl
@[simp] theorem strayRead_queue (s : State) : (strayRead s).queue = s.queue := rfl
@[simp] theorem strayRead_planner (s : State) : (strayRead s).planner = s.planner := rfl
@[simp] theorem strayRead_geometry (s : State) : (strayRead s).geometry = s.geometry := rfl
@[simp] theorem strayRead_line (s : State) : (strayRead s).line = s.line := rfl
@[simp] theorem strayRead_holds (s : State) : (strayRead s).holds = s.holds := rfl
@[simp] theorem strayRead_tracking (s : State) : (strayRead s).tracking = s.tracking := rfl
@[simp] theorem strayRead_carrier (s : State) : (strayRead s).carrier = s.carrier := rfl
@[simp] theorem strayRead_diverter (s : State) : (strayRead s).diverter = s.diverter := rfl
@[simp] theorem strayRead_stacker (s : State) : (strayRead s).stacker = s.stacker := rfl
@[simp] theorem strayRead_units (s : State) : (strayRead s).units = s.units := rfl
@[simp] theorem strayRead_inputs (s : State) : (strayRead s).inputs = s.inputs := rfl
@[simp] theorem strayRead_startup (s : State) : (strayRead s).startup = s.startup := rfl
@[simp] theorem strayRead_draws (s : State) : (strayRead s).draws = s.draws := rfl
@[simp] theorem strayRead_pending (s : State) : (strayRead s).pending = s.pending := rfl

@[simp] theorem produceCancelAll_host (s : State) : (produceCancelAll s).host = s.host := by
  unfold produceCancelAll produce; split <;> rfl
@[simp] theorem produceCancelAll_store (s : State) : (produceCancelAll s).store = s.store := by
  unfold produceCancelAll produce; split <;> rfl
@[simp] theorem produceCancelAll_queue (s : State) : (produceCancelAll s).queue = s.queue := by
  unfold produceCancelAll produce; split <;> rfl
@[simp] theorem produceCancelAll_planner (s : State) : (produceCancelAll s).planner = s.planner := by
  unfold produceCancelAll produce; split <;> rfl
@[simp] theorem produceCancelAll_geometry (s : State) : (produceCancelAll s).geometry = s.geometry := by
  unfold produceCancelAll produce; split <;> rfl
@[simp] theorem produceCancelAll_line (s : State) : (produceCancelAll s).line = s.line := by
  unfold produceCancelAll produce; split <;> rfl
@[simp] theorem produceCancelAll_holds (s : State) : (produceCancelAll s).holds = s.holds := by
  unfold produceCancelAll produce; split <;> rfl
@[simp] theorem produceCancelAll_tracking (s : State) : (produceCancelAll s).tracking = s.tracking := by
  unfold produceCancelAll produce; split <;> rfl
@[simp] theorem produceCancelAll_verify (s : State) : (produceCancelAll s).verify = s.verify := by
  unfold produceCancelAll produce; split <;> rfl
@[simp] theorem produceCancelAll_diverter (s : State) : (produceCancelAll s).diverter = s.diverter := by
  unfold produceCancelAll produce; split <;> rfl
@[simp] theorem produceCancelAll_stacker (s : State) : (produceCancelAll s).stacker = s.stacker := by
  unfold produceCancelAll produce; split <;> rfl
@[simp] theorem produceCancelAll_units (s : State) : (produceCancelAll s).units = s.units := by
  unfold produceCancelAll produce; split <;> rfl
@[simp] theorem produceCancelAll_inputs (s : State) : (produceCancelAll s).inputs = s.inputs := by
  unfold produceCancelAll produce; split <;> rfl
@[simp] theorem produceCancelAll_draws (s : State) : (produceCancelAll s).draws = s.draws := by
  unfold produceCancelAll produce; split <;> rfl
@[simp] theorem produceCancelAll_pending (s : State) : (produceCancelAll s).pending = s.pending := by
  unfold produceCancelAll produce; split <;> rfl

/-! ### The fields that an update writes, and their neighbours -/

@[simp] theorem answer_host_slot (c : ResultCode) (p : List Byte) (s : State) :
    (answer c p s).host.slot = .formed c p := rfl
@[simp] theorem answer_host_latch (c : ResultCode) (p : List Byte) (s : State) :
    (answer c p s).host.latch = s.host.latch := rfl
@[simp] theorem answer_host_operation (c : ResultCode) (p : List Byte) (s : State) :
    (answer c p s).host.operation = s.host.operation := rfl
@[simp] theorem answer_host_attention (c : ResultCode) (p : List Byte) (s : State) :
    (answer c p s).host.attention = s.host.attention := rfl
@[simp] theorem answer_host_cleared (c : ResultCode) (p : List Byte) (s : State) :
    (answer c p s).host.cleared = s.host.cleared := rfl

@[simp] theorem emptyLatch_host_latch (s : State) :
    (emptyLatch s).host.latch = .empty := rfl
@[simp] theorem emptyLatch_host_slot (s : State) :
    (emptyLatch s).host.slot = s.host.slot := rfl
@[simp] theorem emptyLatch_host_operation (s : State) :
    (emptyLatch s).host.operation = s.host.operation := rfl

@[simp] theorem fillLatch_host_latch (l : SetupLatch) (s : State) :
    (fillLatch l s).host.latch = l := rfl
@[simp] theorem fillLatch_host_slot (l : SetupLatch) (s : State) :
    (fillLatch l s).host.slot = s.host.slot := rfl
@[simp] theorem fillLatch_host_operation (l : SetupLatch) (s : State) :
    (fillLatch l s).host.operation = s.host.operation := rfl

@[simp] theorem beginOperation_host_operation (o : Operation) (s : State) :
    (beginOperation o s).host.operation = some o := rfl
@[simp] theorem beginOperation_host_slot (o : Operation) (s : State) :
    (beginOperation o s).host.slot = .pending := rfl
@[simp] theorem beginOperation_host_latch (o : Operation) (s : State) :
    (beginOperation o s).host.latch = s.host.latch := rfl

@[simp] theorem mapRecords_store_eq (f : Record → Record) (s : State) :
    (mapRecords f s).store = s.store.map f := rfl

@[simp] theorem dequeue_queue_order (k : Nat) (s : State) :
    (dequeue k s).queue.order = s.queue.order.filter (fun q => q ≠ k) := rfl
@[simp] theorem dequeue_queue_lastKey (k : Nat) (s : State) :
    (dequeue k s).queue.lastKey = s.queue.lastKey := rfl

@[simp] theorem freeRecord_store_eq (k : Nat) (s : State) :
    (freeRecord k s).store = s.store.filter (fun r => r.key ≠ k) := rfl

@[simp] theorem mapPieces_tracking_pieces (f : Piece → Piece) (s : State) :
    (mapPieces f s).tracking.pieces = s.tracking.pieces.map f := rfl
@[simp] theorem mapPieces_tracking_counter (f : Piece → Piece) (s : State) :
    (mapPieces f s).tracking.counter = s.tracking.counter := rfl
@[simp] theorem mapPieces_tracking_gapCount (f : Piece → Piece) (s : State) :
    (mapPieces f s).tracking.gapCount = s.tracking.gapCount := rfl

@[simp] theorem updateBundle_stacker_request (n : Nat) (f : Bundle → Bundle) (s : State) :
    (updateBundle n f s).stacker.request = s.stacker.request := rfl
@[simp] theorem updateBundle_stacker_exceptions (n : Nat) (f : Bundle → Bundle) (s : State) :
    (updateBundle n f s).stacker.exceptions = s.stacker.exceptions := rfl
@[simp] theorem updateBundle_stacker_closedOrder (n : Nat) (f : Bundle → Bundle) (s : State) :
    (updateBundle n f s).stacker.closedOrder = s.stacker.closedOrder := rfl
@[simp] theorem updateBundle_stacker_counter (n : Nat) (f : Bundle → Bundle) (s : State) :
    (updateBundle n f s).stacker.counter = s.stacker.counter := rfl

@[simp] theorem updateUnit_units_eq (u : Nat) (f : TimingUnit → TimingUnit) (s : State) :
    (updateUnit u f s).units = s.units.modify u f := rfl

@[simp] theorem enterLine_line_eq (t : LineState) (s : State) :
    (enterLine t s).line = s.line.enter t := rfl

@[simp] theorem setDrain_line_drain (s : State) :
    (setDrain s).line.drain = true := rfl
@[simp] theorem setDrain_line_state (s : State) :
    (setDrain s).line.state = s.line.state := rfl

@[simp] theorem clearCauses_line_first (s : State) :
    (clearCauses s).line.first = none := rfl
@[simp] theorem clearCauses_line_further (s : State) :
    (clearCauses s).line.further = 0 := rfl
@[simp] theorem clearCauses_line_state (s : State) :
    (clearCauses s).line.state = s.line.state := rfl

/-! ### The line unit at a change of state -/

@[simp] theorem LineUnit.enter_state (t : LineState) (l : LineUnit) : (l.enter t).state = t := rfl
@[simp] theorem LineUnit.enter_drain (t : LineState) (l : LineUnit) : (l.enter t).drain = l.drain := rfl
@[simp] theorem LineUnit.enter_inPitch (t : LineState) (l : LineUnit) : (l.enter t).inPitch = l.inPitch := rfl
@[simp] theorem LineUnit.enter_backlash (t : LineState) (l : LineUnit) : (l.enter t).backlash = l.backlash := rfl
@[simp] theorem LineUnit.enter_pitch (t : LineState) (l : LineUnit) : (l.enter t).pitch = l.pitch := rfl
@[simp] theorem LineUnit.enter_first (t : LineState) (l : LineUnit) : (l.enter t).first = l.first := rfl
@[simp] theorem LineUnit.enter_further (t : LineState) (l : LineUnit) : (l.enter t).further = l.further := rfl
@[simp] theorem LineUnit.enter_holdLimit (t : LineState) (l : LineUnit) : (l.enter t).holdLimit = l.holdLimit := rfl

end Sys2Proof.Machine
end

