-- ==== Sys2Proof/Laws/Commands.lean ====
section
/-! SUPPORT. How a command or event is taken, said once: by a listening part, by a busy one, with a
payload out of form, and under an asserted reset input. -/

namespace Sys2Proof.Machine

variable {α : Type}

/-- A part that takes frames takes this one. -/
theorem takeFrame_taken (act : State → State) {s : State} (h : TakesFrames s) :
    takeFrame act s = act s := by simp [takeFrame, h.1, h.2, Startup.over]

/-- Under an asserted reset input a frame is discarded (R183). -/
theorem takeFrame_reset (act : State → State) {s : State} (h : s.inputs.reset = true) :
    takeFrame act s = s := by simp [takeFrame, h]

/-- Until RDY has risen after a pin reset a frame is discarded (R184). -/
theorem takeFrame_rising (act : State → State) {s : State} (h : s.startup.rdyIn ≠ none) :
    takeFrame act s = s := by simp [takeFrame, Option.isSome_iff_ne_none.mpr h]

/-- A frame whose transaction began before RDY rose is discarded (R184), and the next one is taken. -/
theorem takeFrame_straddling (act : State → State) {s : State} (h : s.inputs.reset = false)
    (r : s.startup.rdyIn = none) (b : s.startup.straddles = true) :
    takeFrame act s = { s with startup := Startup.over } := by simp [takeFrame, h, r, b]

/-- Whatever becomes of a frame, it is discarded, with or without the span after a pin reset being over,
or it acts on a part that takes frames. -/
theorem takeFrame_cases (act : State → State) (s : State) :
    takeFrame act s = s ∨ takeFrame act s = { s with startup := Startup.over }
      ∨ (TakesFrames s ∧ takeFrame act s = act s) := by
  unfold takeFrame
  split
  · exact .inl rfl
  · next h =>
    split
    · exact .inr (.inl rfl)
    · next b =>
      have h' : s.inputs.reset = false ∧ s.startup.rdyIn = none := by simpa using h
      have b' : s.startup.straddles = false := by simpa using b
      refine .inr (.inr ⟨⟨h'.1, ?_⟩, rfl⟩)
      cases e : s.startup with
      | mk r b =>
        rw [e] at h' b'
        cases h'.2
        cases b'
        rfl

/-- A listening part runs the command's own rule, with the setup latch emptied (R188). -/
theorem hostCommand_listening (a : α) (act : α → State → State) {s : State} (h : Listening s) :
    hostCommand (.fields a) act s = act a (emptyLatch s) := by
  simp [hostCommand, hostCommandOr, takeFrame_taken _ h.1, runOrRefuse, busy, h.2]

/-- A busy part answers BUSY and does nothing else (R187). -/
theorem hostCommandOr_busy (bad : State → List Byte) (p : Payload α) (act : α → State → State)
    {s : State} (h : TakesFrames s) (b : s.host.operation ≠ none) :
    hostCommandOr bad p act s = refuseWith .busy s := by
  simp [hostCommandOr, takeFrame_taken _ h, runOrRefuse, busy, Option.isSome_iff_ne_none.mpr b]

/-- A payload out of form is refused with RANGE before the command's own rule (R185). -/
theorem hostCommandOr_malformed (bad : State → List Byte) (act : α → State → State) {s : State}
    (h : Listening s) :
    hostCommandOr bad .malformed act s = answer .range (bad s) (emptyLatch s) := by
  simp [hostCommandOr, takeFrame_taken _ h.1, runOrRefuse, busy, h.2]

/-- Under an asserted reset input a command is discarded (R183). -/
theorem hostCommandOr_reset (bad : State → List Byte) (p : Payload α) (act : α → State → State)
    {s : State} (h : s.inputs.reset = true) : hostCommandOr bad p act s = s :=
  takeFrame_reset _ h

/-- Whatever the part does with a command, it is one of five acts. -/
theorem hostCommandOr_cases (bad : State → List Byte) (p : Payload α) (act : α → State → State)
    (s : State) :
    hostCommandOr bad p act s = s ∨ hostCommandOr bad p act s = { s with startup := Startup.over }
      ∨ hostCommandOr bad p act s = refuseWith .busy s
      ∨ hostCommandOr bad p act s = answer .range (bad s) (emptyLatch s)
      ∨ ∃ a, p = .fields a ∧ hostCommandOr bad p act s = act a (emptyLatch s) := by
  rcases takeFrame_cases (runOrRefuse bad p act) s with h | h | ⟨_, h⟩
  · exact .inl h
  · exact .inr (.inl h)
  · refine .inr (.inr ?_)
    simp only [hostCommandOr, h, runOrRefuse]
    split
    · exact .inl rfl
    · cases p with
      | fields a => exact .inr (.inr ⟨a, rfl, rfl⟩)
      | malformed => exact .inr (.inl rfl)

/-- An event under a reset input that is not asserted acts. -/
theorem lineEvent_taken (act : State → State) {s : State} (h : s.inputs.reset = false) :
    lineEvent act s = act s := by simp [lineEvent, h]

/-- An event under an asserted reset input is discarded (R183). -/
theorem lineEvent_reset (act : State → State) {s : State} (h : s.inputs.reset = true) :
    lineEvent act s = s := by simp [lineEvent, h]

/-- Whatever an event does, it acts or is discarded. -/
theorem lineEvent_cases (act : State → State) (s : State) :
    lineEvent act s = s ∨ lineEvent act s = act s := by
  unfold lineEvent
  split
  · exact .inl rfl
  · exact .inr rfl

/-- An answer given with the latch emptied, in the terms of the claims. -/
theorem answer_emptyLatch (c : ResultCode) (p : List Byte) (s : State) :
    answer c p (emptyLatch s) = { s with host := s.host.answered c p } := rfl

/-- A refusal given with the latch emptied, in the terms of the claims. -/
theorem refuseWith_emptyLatch (c : ResultCode) (s : State) :
    refuseWith c (emptyLatch s) = { s with host := s.host.answered c [] } := rfl

end Sys2Proof.Machine
end

