-- ==== Sys2Proof/Laws/Frames.lean ====
section
/-! SUPPORT. What the blocks' operations leave alone: one lemma for each operation of the blocks behind
the line unit, from which the claims about a whole step follow without unfolding one. -/

namespace Sys2Proof.Machine

/-! The lemmas of this file are elaborated one after the other: elaborated at once they wait for one
another in so many threads that a memory limit can stop the compile. -/
set_option Elab.async false

/-- What every operation of the store, the queue, the planner, the tracking table, the stations, the
carrier and verify units, the diverter, the stacker and the timing units promises: the host link, the
geometry, the line unit, the pins, the model's own counter and queue and the settings stay as they are,
no subscriber key is added, the lead stays within its range, and the settings of the timing units in
theirs. -/
structure BlockStep (s t : State) : Prop where
  host : t.host = s.host := by rfl
  geometry : t.geometry = s.geometry := by rfl
  line : t.line = s.line := by rfl
  inputs : t.inputs = s.inputs := by rfl
  startup : t.startup = s.startup := by rfl
  draws : t.draws = s.draws := by rfl
  pending : t.pending = s.pending := by rfl
  product : t.planner.product = s.planner.product := by rfl
  filmMass : t.planner.filmMass = s.planner.filmMass := by rfl
  inserts : t.planner.inserts = s.planner.inserts := by rfl
  nmax : t.planner.nmax = s.planner.nmax := by rfl
  mmax : t.planner.mmax = s.planner.mmax := by rfl
  burst : t.queue.burst = s.queue.burst := by rfl
  lowWater : t.queue.lowWater = s.queue.lowWater := by rfl
  remakeLimit : t.diverter.remakeLimit = s.diverter.remakeLimit := by rfl
  tolerance : t.diverter.tolerance = s.diverter.tolerance := by rfl
  holdLimit : t.stacker.holdLimit = s.stacker.holdLimit := by rfl
  ejectLimit : t.stacker.ejectLimit = s.stacker.ejectLimit := by rfl
  lmin : t.carrier.lmin = s.carrier.lmin := by rfl
  lmax : t.carrier.lmax = s.carrier.lmax := by rfl
  keys : (t.store.map (fun r => r.key)).Sublist (s.store.map (fun r => r.key)) := by
    exact List.Sublist.refl _
  lead : LeadSafe s.carrier → LeadSafe t.carrier := by exact id
  units : UnitsSafe s.geometry.c s.units → UnitsSafe t.geometry.c t.units := by exact id

theorem BlockStep.refl (s : State) : BlockStep s s := {}

theorem BlockStep.trans {s t u : State} (h : BlockStep s t) (k : BlockStep t u) : BlockStep s u where
  host := k.host.trans h.host
  geometry := k.geometry.trans h.geometry
  line := k.line.trans h.line
  inputs := k.inputs.trans h.inputs
  startup := k.startup.trans h.startup
  draws := k.draws.trans h.draws
  pending := k.pending.trans h.pending
  product := k.product.trans h.product
  filmMass := k.filmMass.trans h.filmMass
  inserts := k.inserts.trans h.inserts
  nmax := k.nmax.trans h.nmax
  mmax := k.mmax.trans h.mmax
  burst := k.burst.trans h.burst
  lowWater := k.lowWater.trans h.lowWater
  remakeLimit := k.remakeLimit.trans h.remakeLimit
  tolerance := k.tolerance.trans h.tolerance
  holdLimit := k.holdLimit.trans h.holdLimit
  ejectLimit := k.ejectLimit.trans h.ejectLimit
  lmin := k.lmin.trans h.lmin
  lmax := k.lmax.trans h.lmax
  keys := k.keys.trans h.keys
  lead := fun l => k.lead (h.lead l)
  units := fun u => k.units (h.units u)

theorem BlockStep.foldl {α : Type} (f : State → α → State) (h : ∀ s a, BlockStep s (f s a))
    (l : List α) : ∀ s, BlockStep s (l.foldl f s) := by
  induction l with
  | nil => exact BlockStep.refl
  | cons a l ih => exact fun s => (h s a).trans (ih _)

theorem BlockStep.ite {s t u : State} (c : Prop) [Decidable c] (h : c → BlockStep s t)
    (k : ¬c → BlockStep s u) : BlockStep s (if c then t else u) := by
  split
  · exact h ‹_›
  · exact k ‹_›

/-! ### The record store, the queue and the pieces -/

theorem mapRecords_step (f : Record → Record) (h : ∀ r, (f r).key = r.key) (s : State) :
    BlockStep s (mapRecords f s) :=
  { keys := by
      have e : (fun r : Record => (f r).key) = fun r => r.key := funext h
      simp only [mapRecords, List.map_map, Function.comp_def, e]
      exact List.Sublist.refl _ }

theorem updateRecord_step (k : Nat) (f : Record → Record) (h : ∀ r, (f r).key = r.key) (s : State) :
    BlockStep s (updateRecord k f s) :=
  mapRecords_step _ (fun r => by split <;> simp [h]) s

theorem dequeue_step (k : Nat) (s : State) : BlockStep s (dequeue k s) := {}

theorem freeRecord_step (k : Nat) (s : State) : BlockStep s (freeRecord k s) :=
  { keys := List.Sublist.map _ List.filter_sublist }

theorem freeRecords_step (ks : List Nat) (s : State) : BlockStep s (freeRecords ks s) :=
  BlockStep.foldl _ (fun s k => freeRecord_step k s) ks s

theorem requeue_step (k : Nat) (m : Kind) (s : State) : BlockStep s (requeue k m s) := by
  unfold requeue
  dsimp only
  refine BlockStep.trans ?_ (updateRecord_step _ _ (fun _ => by rfl) _)
  exact {}

theorem mapPieces_step (f : Piece → Piece) (s : State) : BlockStep s (mapPieces f s) := {}

theorem updatePiece_step (n : BitVec 16) (f : Piece → Piece) (s : State) :
    BlockStep s (updatePiece n f s) := {}

theorem removePiece_step (n : BitVec 16) (s : State) : BlockStep s (removePiece n s) := {}

theorem recordDefect_step (n : BitVec 16) (c : DefectCause) (d : DefectStation) (s : State) :
    BlockStep s (recordDefect n c d s) := {}

theorem passStep_step (n : BitVec 16) (g : Stage) (s : State) : BlockStep s (passStep n g s) := {}

theorem setPlan_step (i : Nat) (p : Option Plan) (s : State) : BlockStep s (setPlan i p s) := {}

theorem updateOrdinal_step (ref : PlanRef) (f : Ordinal → Ordinal) (s : State) :
    BlockStep s (updateOrdinal ref f s) := by
  unfold updateOrdinal
  split
  · exact BlockStep.refl s
  · exact setPlan_step _ _ s

theorem updateBundle_step (n : Nat) (f : Bundle → Bundle) (s : State) :
    BlockStep s (updateBundle n f s) := {}

theorem setEjectTimer_step (p : PocketId) (t : EjectTimer) (s : State) :
    BlockStep s (setEjectTimer p t s) := by cases p <;> exact {}

theorem enterException_step (k : Nat) (d : Disposition) (c : Option DefectCause)
    (p : Option (BitVec 16)) (s : State) : BlockStep s (enterException k d c p s) := by
  unfold enterException
  dsimp only
  refine BlockStep.trans ?_ (updateRecord_step _ _ (fun _ => by rfl) _)
  exact {}

theorem clearPocketWait_step (s : State) : BlockStep s (clearPocketWait s) := {}
theorem raisePocketWait_step (s : State) : BlockStep s (raisePocketWait s) := {}
theorem clearPrinterWait_step (s : State) : BlockStep s (clearPrinterWait s) := {}
theorem raisePrinterWait_step (s : State) : BlockStep s (raisePrinterWait s) := {}

/-- A unit changed in a way that keeps settings in their ranges, among units whose settings are in
theirs. -/
theorem UnitsSafe.modify {c : Nat} {us : List TimingUnit} (f : TimingUnit → TimingUnit)
    (hf : ∀ t : TimingUnit, (t.settings.InRange c ∧ ∀ n, t.pending = some n → n.InRange c) →
      (f t).settings.InRange c ∧ ∀ n, (f t).pending = some n → n.InRange c)
    (u : Nat) (h : UnitsSafe c us) : UnitsSafe c (us.modify u f) := by
  refine ⟨by rw [List.length_modify]; exact h.1, fun t ht => ?_⟩
  obtain ⟨i, hi, rfl⟩ := List.getElem_of_mem ht
  rw [List.getElem_modify]
  rw [List.length_modify] at hi
  split
  · exact hf _ (h.2 _ (List.getElem_mem hi))
  · exact h.2 _ (List.getElem_mem hi)

/-- A unit changed otherwise than in its settings. -/
theorem updateUnit_step (u : Nat) (f : TimingUnit → TimingUnit) (s : State)
    (hf : ∀ t : TimingUnit, (f t).settings = t.settings ∧ (f t).pending = t.pending) :
    BlockStep s (updateUnit u f s) :=
  { units := UnitsSafe.modify f (fun t h => by rw [(hf t).1, (hf t).2]; exact h) u }

theorem giveOrder_step (u : Nat) (s : State) : BlockStep s (giveOrder u s) :=
  updateUnit_step u _ s (fun _ => ⟨rfl, rfl⟩)

/-! ### Bundles and pockets -/

theorem clearRequest_step (s : State) : BlockStep s (clearRequest s) := {}

theorem reserve_step (p : PocketId) (n : Nat) (s : State) : BlockStep s (reserve p n s) := by
  unfold reserve
  dsimp only
  exact BlockStep.ite _ (fun _ => {}) (fun _ => {})

theorem answerRequest_step (s : State) : BlockStep s (answerRequest s) := by
  unfold answerRequest
  split
  · exact reserve_step _ _ s
  · exact BlockStep.refl s

theorem lateUnmade_step (k : Nat) (s : State) : BlockStep s (lateUnmade k s) := by
  unfold lateUnmade
  exact BlockStep.ite _ (fun _ => enterException_step _ _ _ _ s) (fun _ => BlockStep.refl s)

theorem closeBundle_step (n : Nat) (r : CloseReason) (s : State) :
    BlockStep s (closeBundle n r s) := by
  unfold closeBundle
  dsimp only
  split
  · exact BlockStep.refl s
  · refine BlockStep.trans ?_ (BlockStep.foldl _ (fun s k => lateUnmade_step k s) _ _)
    split
    · exact updateBundle_step _ _ s
    · exact (updateBundle_step _ _ s).trans (setEjectTimer_step _ _ _)

theorem completionTest_step (n : Nat) (s : State) : BlockStep s (completionTest n s) := by
  unfold completionTest
  split
  · exact BlockStep.refl s
  · exact BlockStep.ite _ (fun _ => closeBundle_step _ _ s) (fun _ => BlockStep.refl s)

theorem forceForRequest_step (n : Nat) (s : State) : BlockStep s (forceForRequest n s) := by
  unfold forceForRequest
  exact BlockStep.ite _ (fun _ => (closeBundle_step _ _ s).trans (raisePocketWait_step _))
    (fun _ => BlockStep.refl s)

theorem lookAheadFor_step (n : Nat) (s : State) : BlockStep s (lookAheadFor n s) := by
  unfold lookAheadFor
  split
  · exact BlockStep.refl s
  · refine BlockStep.ite _ (fun _ => ?_) (fun _ => BlockStep.refl s)
    split
    · exact reserve_step _ _ s
    · have h : ∀ u : State, BlockStep s u →
          BlockStep s (match forceChoice u with
            | some m => closeBundle m .forced u
            | none => u) := by
        intro u hu
        split
        · exact hu.trans (closeBundle_step _ _ _)
        · exact hu
      have h1 := h { s with stacker := { s.stacker with request := some n } } {}
      exact BlockStep.ite _ (fun _ => h1.trans (raisePocketWait_step _)) (fun _ => h1)

theorem eraseBundle_step (n : Nat) (s : State) : BlockStep s (eraseBundle n s) := by
  unfold eraseBundle
  refine BlockStep.trans ?_ (mapRecords_step _ (fun r => by split <;> rfl) _)
  exact {}

theorem freeUnclosed_step (n : Nat) (r : CloseReason) (s : State) :
    BlockStep s (freeUnclosed n r s) := by
  unfold freeUnclosed
  dsimp only
  split
  · exact BlockStep.refl s
  · have h := eraseBundle_step n s
    have h2 : ∀ b : Bundle, BlockStep s
        { eraseBundle n s with
          stacker :=
            { (eraseBundle n s).stacker with
              lastFreed := some { bundle := n, route := b.route, reason := r }
              freedCount := raise top16 (eraseBundle n s).stacker.freedCount } } :=
      fun _ => h.trans {}
    have h3 : ∀ (c : Prop) [Decidable c] (u : State), BlockStep s u →
        BlockStep s (if c then clearRequest u else u) := fun c _ u hu =>
      BlockStep.ite c (fun _ => hu.trans (clearRequest_step u)) (fun _ => hu)
    exact BlockStep.ite _ (fun _ => (h3 _ _ (h2 _)).trans (answerRequest_step _))
      (fun _ => h3 _ _ (h2 _))

/-! ### Plans -/

theorem retirePlan_step (i : Nat) (s : State) : BlockStep s (retirePlan i s) :=
  (setPlan_step i none s).trans (mapRecords_step _ (fun r => by split <;> rfl) _)

theorem retirementTest_step (i : Nat) (s : State) : BlockStep s (retirementTest i s) := by
  unfold retirementTest
  split
  · exact BlockStep.refl s
  · exact BlockStep.ite _ (fun _ => retirePlan_step i s) (fun _ => BlockStep.refl s)

theorem finaliseOrdinal_step (ref : PlanRef) (s : State) : BlockStep s (finaliseOrdinal ref s) := by
  unfold finaliseOrdinal
  dsimp only
  split
  · exact BlockStep.refl s
  · refine BlockStep.trans ?_ (retirementTest_step _ _)
    split
    · exact (updateOrdinal_step _ _ s).trans
        ((updateBundle_step _ _ _).trans (completionTest_step _ _))
    all_goals exact updateOrdinal_step _ _ s

theorem finaliseCurrent_step (i : Nat) (s : State) : BlockStep s (finaliseCurrent i s) := by
  unfold finaliseCurrent
  split
  · exact BlockStep.refl s
  · split
    · exact BlockStep.refl s
    · exact BlockStep.ite _ (fun _ => finaliseOrdinal_step _ s) (fun _ => BlockStep.refl s)

theorem finaliseOthers_step (r : Nat) (s : State) : BlockStep s (finaliseOthers r s) :=
  BlockStep.foldl _
    (fun s i => BlockStep.ite _ (fun _ => finaliseCurrent_step i s) (fun _ => BlockStep.refl s)) _ s

theorem closeToGrowth_step (i : Nat) (s : State) : BlockStep s (closeToGrowth i s) := by
  unfold closeToGrowth
  split
  · exact BlockStep.refl s
  · exact (setPlan_step _ _ s).trans (finaliseCurrent_step _ _)

theorem departHandOff_step (ref : PlanRef) (n : Nat) (s : State) :
    BlockStep s (departHandOff ref n s) := by
  unfold departHandOff
  split
  · exact BlockStep.refl s
  · exact BlockStep.ite _
      (fun _ => (freeUnclosed_step _ _ s).trans
        ((updateOrdinal_step _ _ _).trans (retirementTest_step _ _)))
      (fun _ => completionTest_step _ s)

theorem departFrom_step (ref : PlanRef) (m : Nat) (s : State) : BlockStep s (departFrom ref m s) := by
  unfold departFrom
  split
  · exact BlockStep.refl s
  · split
    · exact BlockStep.ite _
        (fun _ => (updateOrdinal_step _ _ s).trans
          ((updateOrdinal_step _ _ _).trans (retirementTest_step _ _)))
        (fun _ => updateOrdinal_step _ _ s)
    · split
      · exact BlockStep.refl s
      · exact BlockStep.ite _
          (fun _ => (updateOrdinal_step _ _ s).trans
            ((updateBundle_step _ _ _).trans (departHandOff_step _ _ _)))
          (fun _ => BlockStep.refl s)
    all_goals exact BlockStep.refl s

theorem depart_step (r : Record) (s : State) : BlockStep s (depart r s) := by
  unfold depart
  split
  · exact BlockStep.refl s
  · exact departFrom_step _ _ s

theorem assignRefs_step (p : Nat) (gs : List (List Record)) :
    ∀ (o : Nat) (s : State), BlockStep s (assignRefs p o gs s) := by
  induction gs with
  | nil => exact fun _ s => BlockStep.refl s
  | cons g gs ih => exact fun o s =>
      (mapRecords_step _ (fun r => by split <;> rfl) s).trans (ih (o + 1) _)

theorem makePlan_step (i : Nat) (r : Record) (s : State) : BlockStep s (makePlan i r s) := by
  unfold makePlan
  dsimp only
  exact BlockStep.ite _ (fun _ => (setPlan_step _ _ s).trans (assignRefs_step _ _ _ _))
    (fun _ => (setPlan_step _ _ s).trans (updateRecord_step _ _ (fun _ => by rfl) _))

theorem joinOrdinal_step (ref : PlanRef) (r : Record) (s : State) :
    BlockStep s (joinOrdinal ref r s) := by
  unfold joinOrdinal
  dsimp only
  split
  · exact BlockStep.refl s
  · split
    · exact (updateOrdinal_step _ _ s).trans (updateBundle_step _ _ _)
    all_goals exact updateOrdinal_step _ _ s

theorem openOrdinal_step (i : Nat) (p : Plan) (r : Record) (s : State) :
    BlockStep s (openOrdinal i p r s) := by
  unfold openOrdinal
  dsimp only
  split
  · exact setPlan_step _ _ s
  · exact BlockStep.ite _ (fun _ => (setPlan_step _ _ s).trans (finaliseOrdinal_step _ _))
      (fun _ => setPlan_step _ _ s)

theorem allocateBundle_step (ref : PlanRef) (r : Nat) (s : State) :
    BlockStep s (allocateBundle ref r s) := by
  unfold allocateBundle
  dsimp only
  split
  · exact BlockStep.refl s
  · refine BlockStep.trans ?_ (mapRecords_step _ (fun r => by split <;> rfl) _)
    refine BlockStep.trans ?_ (updateOrdinal_step _ _ _)
    exact {}

theorem finaliseAtDrain_step (s : State) : BlockStep s (finaliseAtDrain s) := by
  unfold finaliseAtDrain
  dsimp only
  refine BlockStep.trans ?_ (BlockStep.foldl _ (fun s i => retirePlan_step i s) _ _)
  exact {}

/-! ### The carrier unit -/

theorem produce_step (m : PrinterMessage) (s : State) : BlockStep s (produce m s) := by
  unfold produce
  split <;> exact {}

theorem produceCancel_step (n : BitVec 16) (s : State) : BlockStep s (produceCancel n s) := by
  unfold produceCancel
  exact BlockStep.ite _ (fun _ => {}) (fun _ => produce_step _ s)

theorem transmitNext_step (s : State) : BlockStep s (transmitNext s) := {}

theorem updatePrinterWait_step (s : State) : BlockStep s (updatePrinterWait s) := by
  unfold updatePrinterWait
  exact BlockStep.ite _ (fun _ => BlockStep.refl s) (fun _ => clearPrinterWait_step s)

theorem sendJob_step (p : Piece) (s : State) : BlockStep s (sendJob p s) := by
  unfold sendJob
  dsimp only
  refine BlockStep.trans ?_ (produce_step _ _)
  exact {}

theorem dispatchFrom_step (ps : List Piece) : ∀ s, BlockStep s (dispatchFrom ps s) := by
  induction ps with
  | nil => exact BlockStep.refl
  | cons p ps ih =>
    intro s
    unfold dispatchFrom
    split
    · exact BlockStep.refl s
    · exact BlockStep.ite _ (fun _ => (sendJob_step p s).trans (ih _)) (fun _ => BlockStep.refl s)
    all_goals exact ih s

theorem dispatch_step (s : State) : BlockStep s (dispatch s) := dispatchFrom_step _ s

theorem resolveJob_step (n : BitVec 16) (j : JobState) (s : State) : BlockStep s (resolveJob n j s) := by
  unfold resolveJob
  dsimp only
  refine BlockStep.trans ?_ ((updatePrinterWait_step _).trans (dispatch_step _))
  exact {}

theorem cancelJob_step (p : Piece) (s : State) : BlockStep s (cancelJob p s) := by
  unfold cancelJob
  split
  case h_1 => exact (updatePiece_step _ _ s).trans (updatePrinterWait_step _)
  case h_2 => exact (updatePiece_step _ _ s).trans (updatePrinterWait_step _)
  case h_3 => exact (produceCancel_step _ s).trans (resolveJob_step _ _ _)
  case h_4 => exact (produceCancel_step _ s).trans (resolveJob_step _ _ _)
  all_goals exact BlockStep.refl s

theorem removeWithJob_step (p : Piece) (s : State) : BlockStep s (removeWithJob p s) := by
  unfold removeWithJob
  split
  case h_1 =>
    exact (produceCancel_step _ s).trans
      ((removePiece_step _ _).trans ((updatePrinterWait_step _).trans (dispatch_step _)))
  case h_2 =>
    exact (produceCancel_step _ s).trans
      ((removePiece_step _ _).trans ((updatePrinterWait_step _).trans (dispatch_step _)))
  all_goals exact (removePiece_step _ s).trans (updatePrinterWait_step _)

/-- A value brought into a range lies in it. -/
theorem bringInto_le (lo hi n : Nat) : bringInto lo hi n ≤ hi := Nat.min_le_left _ _

/-- A value brought into a range that is not empty is at least its lower bound. -/
theorem le_bringInto {lo hi : Nat} (h : lo ≤ hi) (n : Nat) : lo ≤ bringInto lo hi n :=
  Nat.le_min.2 ⟨h, Nat.le_max_left _ _⟩

/-- A wait check counted keeps the lead in its range and the window below its evaluation (R104). -/
theorem countCheck_lead (m : Bool) (c : Carrier) (h : LeadSafe c) : LeadSafe (c.countCheck m) := by
  obtain ⟨h1, h2, h3, h4, h5⟩ := h
  unfold Carrier.countCheck
  dsimp only
  split
  · exact ⟨le_bringInto (h1.trans h2) _, bringInto_le _ _ _, h3, by show 0 < 16; decide, Nat.le_refl 0⟩
  · refine ⟨h1, h2, h3, ?_, ?_⟩
    · simp only; omega
    · simp only; split <;> omega

/-- The accumulator after a birth is again 0 to 3 (R93). -/
theorem leadStep_accumulator {a : Nat} (lq : Nat) (h : a < 4) : (leadStep lq a).2 < 4 := by
  unfold leadStep
  dsimp only
  split
  · simp only; omega
  · simp only; omega

theorem waitCheck_step (p : Piece) (s : State) : BlockStep s (waitCheck p s) := by
  unfold waitCheck
  have h : ∀ (m : Bool) (u : State), BlockStep s u →
      BlockStep s { u with carrier := u.carrier.countCheck m } := by
    intro m u hu
    refine hu.trans ?_
    have e : ∀ c : Carrier, (c.countCheck m).lmin = c.lmin ∧ (c.countCheck m).lmax = c.lmax := by
      intro c
      unfold Carrier.countCheck
      dsimp only
      split <;> exact ⟨rfl, rfl⟩
    exact { lmin := (e _).1, lmax := (e _).2, lead := countCheck_lead m u.carrier }
  split
  case h_1 => exact h true _ ((updatePiece_step _ _ s).trans (raisePrinterWait_step _))
  case h_2 => exact h true _ ((updatePiece_step _ _ s).trans (raisePrinterWait_step _))
  case h_3 => exact h false s (BlockStep.refl s)
  case h_4 => exact h false s (BlockStep.refl s)
  all_goals exact BlockStep.refl s

theorem printerJobsAtMark_step (s : State) : BlockStep s (printerJobsAtMark s) := by
  unfold printerJobsAtMark
  dsimp only
  have h1 := mapPieces_step
    (fun p => if p.becomesDue s.geometry.cOff (position s p) then { p with job := .due } else p) s
  have h2 := BlockStep.ite
    (s.tracking.pieces.any (fun p => p.becomesDue s.geometry.cOff (position s p)) = true)
    (fun _ => h1.trans (dispatch_step _)) (fun _ => h1)
  split
  · exact h2
  · exact h2.trans (waitCheck_step _ _)

theorem carrierArrival_step (s : State) : BlockStep s (carrierArrival s) := by
  unfold carrierArrival
  split
  · exact BlockStep.refl s
  · exact BlockStep.ite _ (fun _ => giveOrder_step _ s) (fun _ => BlockStep.refl s)

theorem verifyArrival_step (s : State) : BlockStep s (verifyArrival s) := by
  unfold verifyArrival
  dsimp only
  split
  · exact BlockStep.refl s
  · have h : ∀ u : State, BlockStep s u → ∀ v : Verify, BlockStep s { u with verify := v } :=
      fun u hu v => hu.trans {}
    exact h _ (BlockStep.ite _ (fun _ => passStep_step _ _ s)
      (fun _ => (cancelJob_step _ s).trans (recordDefect_step _ _ _ _))) _

/-! ### Stations -/

theorem magMiss_step (p : Piece) (s : State) : BlockStep s (magMiss p s) := by
  unfold magMiss
  dsimp only
  have h := removeWithJob_step p s
  split
  · exact h
  · exact BlockStep.ite _ (fun _ => h.trans ((freeRecord_step _ _).trans (depart_step _ _)))
      (fun _ => h.trans (requeue_step _ _ _))

theorem magazineResult_step (w : OpenWindow) (s : State) : BlockStep s (magazineResult w s) := by
  unfold magazineResult
  split
  · exact BlockStep.refl s
  · split
    · exact passStep_step _ _ s
    · exact magMiss_step _ s
    · exact passStep_step _ _ s
    · exact recordDefect_step _ _ _ s

theorem deliver_step (n : BitVec 16) (i : Insert) (s : State) : BlockStep s (deliver n i s) := {}

theorem insertResult_step (i : Insert) (w : OpenWindow) (s : State) :
    BlockStep s (insertResult i w s) := by
  unfold insertResult
  split
  · exact BlockStep.refl s
  · refine BlockStep.ite _ (fun _ => ?_) (fun _ => BlockStep.refl s)
    split
    · exact (deliver_step _ _ s).trans (passStep_step _ _ _)
    · exact BlockStep.ite _ (fun _ => recordDefect_step _ _ _ s) (fun _ => passStep_step _ _ s)
    · exact (deliver_step _ _ s).trans (passStep_step _ _ _)
    · exact (deliver_step _ _ s).trans (recordDefect_step _ _ _ _)

theorem cutResult_step (w : OpenWindow) (s : State) : BlockStep s (cutResult w s) := by
  unfold cutResult
  split
  · exact BlockStep.refl s
  · split
    · exact passStep_step _ _ s
    · exact passStep_step _ _ s
    · exact recordDefect_step _ _ _ s

theorem gaugeJudge_step (p : Piece) (v : Nat) (s : State) : BlockStep s (gaugeJudge p v s) := by
  unfold gaugeJudge
  dsimp only
  exact BlockStep.ite _ (fun _ => (updatePiece_step _ _ s).trans (recordDefect_step _ _ _ _))
    (fun _ => BlockStep.ite _ (fun _ => (updatePiece_step _ _ s).trans (recordDefect_step _ _ _ _))
      (fun _ => (updatePiece_step _ _ s).trans (passStep_step _ _ _)))

theorem gaugeResult_step (w : OpenWindow) (s : State) : BlockStep s (gaugeResult w s) := by
  unfold gaugeResult
  split
  · exact BlockStep.refl s
  · exact BlockStep.ite _ (fun _ => gaugeJudge_step _ _ s) (fun _ => passStep_step _ _ s)

theorem deliverResult_step (u : Nat) (w : OpenWindow) (s : State) :
    BlockStep s (deliverResult u w s) := by
  unfold deliverResult
  split
  case h_1 => exact magazineResult_step w s
  case h_8 => exact cutResult_step w s
  case h_9 => exact gaugeResult_step w s
  case h_10 => exact BlockStep.refl s
  all_goals exact insertResult_step _ w s

theorem insertArrivals_step (s : State) : BlockStep s (insertArrivals s) :=
  BlockStep.foldl _
    (fun s i => by
      split
      · exact BlockStep.refl s
      · exact BlockStep.ite _ (fun _ => giveOrder_step _ s) (fun _ => BlockStep.refl s)) _ s

theorem wrapArrival_step (s : State) : BlockStep s (wrapArrival s) := by
  unfold wrapArrival
  split
  · exact BlockStep.refl s
  · exact passStep_step _ _ s

theorem dropExpected_step (n : BitVec 16) (s : State) : BlockStep s (dropExpected n s) := {}

theorem timeOutEntry_step (n : BitVec 16) (s : State) : BlockStep s (timeOutEntry n s) := {}

theorem verifyTimeouts_step (s : State) : BlockStep s (verifyTimeouts s) :=
  BlockStep.foldl _ (fun s n => timeOutEntry_step n s) _ s

/-! ### Timing units -/

/-- A pulse begun or ended leaves the settings of its unit alone. -/
theorem TimingUnit.pulseAt_settings (p : Nat) (t : TimingUnit) :
    (t.pulseAt p).settings = t.settings ∧ (t.pulseAt p).pending = t.pending := by
  unfold TimingUnit.pulseAt TimingUnit.beginOrder TimingUnit.endPulse
  repeat' split
  all_goals exact ⟨rfl, rfl⟩

/-- So does an order that begins, or is dropped, at a write of the settings. -/
theorem TimingUnit.resettle_settings (p : Nat) (t : TimingUnit) :
    (t.resettle p).settings = t.settings ∧ (t.resettle p).pending = t.pending := by
  unfold TimingUnit.resettle TimingUnit.beginOrder
  repeat' split
  all_goals exact ⟨rfl, rfl⟩

theorem closeWindow_step (u : Nat) (s : State) : BlockStep s (closeWindow u s) := by
  unfold closeWindow
  split
  · exact BlockStep.refl s
  · exact (updateUnit_step u (fun t => { t with window := none }) s (fun _ => ⟨rfl, rfl⟩)).trans
      (deliverResult_step _ _ _)

theorem openWindow_step (u : Nat) (s : State) : BlockStep s (openWindow u s) :=
  (closeWindow_step u s).trans (updateUnit_step _ _ _ (fun _ => ⟨rfl, rfl⟩))

theorem windowCloseAt_step (u p : Nat) (s : State) : BlockStep s (windowCloseAt u p s) :=
  BlockStep.ite _ (fun _ => closeWindow_step u s) (fun _ => BlockStep.refl s)

theorem windowOpenAt_step (u p : Nat) (s : State) : BlockStep s (windowOpenAt u p s) :=
  BlockStep.ite _ (fun _ => openWindow_step u s) (fun _ => BlockStep.refl s)

theorem unitPhase_step (p : Nat) (s : State) (u : Nat) : BlockStep s (unitPhase p s u) :=
  BlockStep.ite _ (fun _ => updateUnit_step _ _ s (TimingUnit.pulseAt_settings p))
    (fun _ => (windowCloseAt_step _ _ s).trans (windowOpenAt_step _ _ _))

theorem phaseReached_step (p : Nat) (s : State) : BlockStep s (phaseReached p s) :=
  BlockStep.foldl _ (unitPhase_step p) _ s

theorem unitPhaseZero_step (s : State) (u : Nat) : BlockStep s (unitPhaseZero s u) :=
  BlockStep.ite _ (fun _ => updateUnit_step _ _ s (TimingUnit.pulseAt_settings 0))
    (fun _ => windowOpenAt_step _ _ s)

theorem windowCloseAtMark_step (u : Nat) (s : State) : BlockStep s (windowCloseAtMark u s) :=
  BlockStep.ite _ (fun _ => closeWindow_step u s) (fun _ => BlockStep.refl s)

/-- The settings in force in a pitch that begins, the pending ones if there are any. -/
theorem beginPitch_step (s : State) : BlockStep s (beginPitch s) :=
  { units := fun h => by
      refine ⟨by simpa [beginPitch] using h.1, fun u hu => ?_⟩
      obtain ⟨i, hi, rfl⟩ := List.mem_mapIdx.1 hu
      have := h.2 _ (List.getElem_mem hi)
      refine ⟨?_, nofun⟩
      show UnitSettings.InRange s.geometry.c ((s.units[i]).pending.getD (s.units[i]).settings)
      cases e : (s.units[i]).pending with
      | none => exact this.1
      | some n => exact this.2 n e }

/-- Settings in range take effect. -/
theorem writeUnit_step (u : Nat) (n : UnitSettings) (s : State)
    (hn : UnitsSafe s.geometry.c s.units → n.InRange s.geometry.c) : BlockStep s (writeUnit u n s) := by
  unfold writeUnit
  dsimp only
  have h : BlockStep s (updateUnit u
      (fun t => TimingUnit.compensate s.geometry.c 0 { t with settings := n, pending := none }) s) :=
    { units := fun h => UnitsSafe.modify _ (fun t _ => ⟨hn h, fun _ k => by cases k⟩) u h }
  exact BlockStep.ite _
    (fun _ => h.trans (updateUnit_step _ _ _ (TimingUnit.resettle_settings s.line.inPitch)))
    (fun _ => BlockStep.ite _ (fun _ => h.trans (openWindow_step _ _)) (fun _ => h))

theorem applyPending_step (s : State) : BlockStep s (applyPending s) :=
  BlockStep.foldl _
    (fun s u => by
      split
      · exact BlockStep.refl s
      · next n e =>
        refine writeUnit_step u n s (fun h => ?_)
        unfold unitAt at e
        rw [List.getD_eq_getElem?_getD] at e
        cases k : s.units[u]? with
        | none => rw [k] at e; cases e
        | some t =>
          rw [k] at e
          exact (h.2 t (List.mem_of_getElem? k)).2 n e) _ s

/-! ### The stacker, the diverter and births -/

theorem lookAheadAtMark_step (s : State) : BlockStep s (lookAheadAtMark s) := by
  unfold lookAheadAtMark
  refine BlockStep.ite _ (fun _ => BlockStep.refl s) (fun _ => ?_)
  split
  · exact BlockStep.refl s
  · exact lookAheadFor_step _ s

theorem becomeHeld_step (n : Nat) (s : State) : BlockStep s (becomeHeld n s) :=
  (updateBundle_step _ _ s).trans (forceForRequest_step _ _)

theorem displace_step (p : PocketId) (s : State) : BlockStep s (displace p s) := by
  unfold displace
  split
  · exact BlockStep.refl s
  · exact BlockStep.ite _
      (fun _ => BlockStep.ite _ (fun _ => closeBundle_step _ _ s)
        (fun _ => BlockStep.ite _ (fun _ => closeBundle_step _ _ s) (fun _ => becomeHeld_step _ s)))
      (fun _ => BlockStep.refl s)

theorem endClaim_step (n : Nat) (s : State) : BlockStep s (endClaim n s) := by
  unfold endClaim
  split
  · exact BlockStep.refl s
  · exact BlockStep.ite _ (fun _ => (updateBundle_step _ _ s).trans (forceForRequest_step _ _))
      (fun _ => BlockStep.refl s)

theorem stackPiece_step (p : Piece) (b : Bundle) (k : PocketId) (s : State) :
    BlockStep s (stackPiece p b k s) := by
  unfold stackPiece
  dsimp only
  have h1 := (updateRecord_step p.key (fun r => { r with state := .stacked }) (fun _ => by rfl) s).trans
    ((updateBundle_step b.number
      (Bundle.withMember p.key (((findRecord s p.key).map (fun r => r.nominalMass)).getD 0)) _).trans
      (removePiece_step p.number _))
  have h2 := BlockStep.ite (b.state = .forming) (fun _ => h1.trans (displace_step k _)) (fun _ => h1)
  have h3 := h2.trans (completionTest_step b.number _)
  exact BlockStep.ite _ (fun _ => h3.trans (endClaim_step _ _)) (fun _ => h3)

theorem latePiece_step (p : Piece) (d : Bool) (s : State) : BlockStep s (latePiece p d s) := by
  unfold latePiece
  dsimp only
  have h : ∀ u : State, BlockStep s u → ∀ n : Nat,
      BlockStep s { u with stacker := { u.stacker with lateCount := n } } :=
    fun u hu n => hu.trans {}
  have h1 := h _ ((removePiece_step p.number s).trans
    (enterException_step p.key .lateMade none (some p.number) _))
  split
  · exact (h1 _).trans (depart_step _ _)
  · exact h1 _

theorem stackOrLate_step (p : Piece) (s : State) : BlockStep s (stackOrLate p s) := by
  unfold stackOrLate
  split
  · exact latePiece_step _ _ s
  · refine BlockStep.ite _ (fun _ => ?_) (fun _ => latePiece_step _ _ s)
    split
    · exact stackPiece_step _ _ _ s
    · exact latePiece_step _ _ s

theorem stackerArrival_step (s : State) : BlockStep s (stackerArrival s) := by
  unfold stackerArrival
  split
  · exact BlockStep.refl s
  · exact (lookAheadFor_step _ s).trans (stackOrLate_step _ _)

theorem expireBundle_step (least : Nat) (s : State) (n : Nat) :
    BlockStep s (expireBundle least s n) := by
  unfold expireBundle
  split
  · exact BlockStep.refl s
  · exact BlockStep.ite _ (fun _ => closeBundle_step _ _ s) (fun _ => BlockStep.refl s)

theorem expireFrom_step (least : Nat) (s : State) : BlockStep s (expireFrom least s) :=
  BlockStep.foldl _ (expireBundle_step least) _ s

theorem holdExpiryTest_step (s : State) : BlockStep s (holdExpiryTest s) := expireFrom_step _ s

theorem completeEjection_step (b : Bundle) (s : State) : BlockStep s (completeEjection b s) := by
  unfold completeEjection
  dsimp only
  refine BlockStep.trans ?_ ((mapRecords_step _ (fun r => by split <;> rfl) _).trans
    ((answerRequest_step _).trans (retirementTest_step _ _)))
  exact {}

theorem countDiversion_step (c : DiverterCount) (s : State) : BlockStep s (countDiversion c s) := by
  cases c <;> exact {}

theorem rejectWithdrawn_step (p : Piece) (r : Record) (s : State) :
    BlockStep s (rejectWithdrawn p r s) :=
  (removePiece_step _ s).trans ((enterException_step _ _ _ _ _).trans
    ((countDiversion_step _ _).trans ((giveOrder_step _ _).trans (depart_step _ _))))

theorem rejectRemade_step (p : Piece) (f : Option DefectCause) (s : State) :
    BlockStep s (rejectRemade p f s) :=
  (removePiece_step _ s).trans ((updateRecord_step _ _ (fun _ => by rfl) _).trans
    ((requeue_step _ _ _).trans ((countDiversion_step _ _).trans (giveOrder_step _ _))))

theorem rejectSpoiled_step (p : Piece) (r : Record) (f : Option DefectCause) (s : State) :
    BlockStep s (rejectSpoiled p r f s) :=
  (removePiece_step _ s).trans ((updateRecord_step _ _ (fun _ => by rfl) _).trans
    ((enterException_step _ _ _ _ _).trans ((countDiversion_step _ _).trans
      ((giveOrder_step _ _).trans (depart_step _ _)))))

theorem handOut_step (p : Piece) (s : State) : BlockStep s (handOut p s) :=
  (removePiece_step _ s).trans ((enterException_step _ _ _ _ _).trans
    ((countDiversion_step _ _).trans (giveOrder_step _ _)))

theorem lookAheadAtDiverter_step (p : Piece) (s : State) : BlockStep s (lookAheadAtDiverter p s) :=
  BlockStep.ite _ (fun _ => lookAheadFor_step _ s) (fun _ => BlockStep.refl s)

theorem passClaiming_step (p : Piece) (s : State) : BlockStep s (passClaiming p s) :=
  (updatePiece_step _ _ s).trans ((passStep_step _ _ _).trans ((updateBundle_step _ _ _).trans
    ((countDiversion_step _ _).trans ((countDiversion_step _ _).trans
      (lookAheadAtDiverter_step _ _)))))

theorem passOn_step (p : Piece) (s : State) : BlockStep s (passOn p s) :=
  (passStep_step _ _ s).trans ((countDiversion_step _ _).trans (lookAheadAtDiverter_step _ _))

theorem divert_step (p : Piece) (r : Record) (s : State) : BlockStep s (divert p r s) := by
  unfold divert
  refine BlockStep.ite _ (fun _ => rejectWithdrawn_step _ _ s) (fun _ => ?_)
  refine BlockStep.ite _
    (fun _ => BlockStep.ite _ (fun _ => rejectRemade_step _ _ s) (fun _ => rejectSpoiled_step _ _ _ s))
    (fun _ => ?_)
  split
  · exact passClaiming_step _ s
  · exact passOn_step _ s
  · exact passOn_step _ s
  all_goals exact handOut_step _ s

theorem diverterArrival_step (s : State) : BlockStep s (diverterArrival s) := by
  unfold diverterArrival
  split
  · exact BlockStep.refl s
  · split
    · exact BlockStep.refl s
    · exact divert_step _ _ s

theorem gap_step (c : GapCause) (s : State) : BlockStep s (gap c s) := {}

theorem bear_step (r : Record) (s : State) : BlockStep s (bear r s) := by
  have h := (dequeue_step r.key s).trans
    (updateRecord_step r.key (fun q => { q with state := .inFlight }) (fun _ => by rfl) _)
  have q : ∀ q : Queue, (q.countBirth r.kind).burst = q.burst
      ∧ (q.countBirth r.kind).lowWater = q.lowWater := by
    intro q
    unfold Queue.countBirth
    split <;> exact ⟨rfl, rfl⟩
  refine (h.trans ?_).trans (giveOrder_step 0 _)
  exact
    { burst := (q _).1
      lowWater := (q _).2
      lead := fun ⟨h1, h2, h3, h4, h5⟩ => ⟨h1, h2, leadStep_accumulator s.carrier.lq h3, h4, h5⟩ }

theorem bearWaiting_step (ref : PlanRef) (r : Record) (s : State) :
    BlockStep s (bearWaiting ref r s) :=
  BlockStep.ite _ (fun _ => gap_step _ s)
    (fun _ => (allocateBundle_step _ _ s).trans (bear_step _ _))

theorem bearNewRoute_step (r : Record) (s : State) : BlockStep s (bearNewRoute r s) := by
  unfold bearNewRoute
  split
  · exact gap_step _ s
  · exact BlockStep.ite _ (fun _ => gap_step _ s)
      (fun _ => (makePlan_step _ _ s).trans ((allocateBundle_step _ _ _).trans
        ((finaliseOthers_step _ _).trans (bear_step _ _))))

theorem takeRef_step (ref : PlanRef) (r : Record) (s : State) : BlockStep s (takeRef ref r s) :=
  updateRecord_step _ _ (fun _ => by rfl) s

theorem finaliseIfEnd_step (ref : PlanRef) (r : Record) (s : State) :
    BlockStep s (finaliseIfEnd ref r s) :=
  BlockStep.ite _ (fun _ => finaliseOrdinal_step _ s) (fun _ => BlockStep.refl s)

theorem bearGrowing_step (i : Nat) (r : Record) (s : State) : BlockStep s (bearGrowing i r s) := by
  unfold bearGrowing
  split
  · exact BlockStep.refl s
  · refine BlockStep.ite _
      (fun _ => (BlockStep.ite _ (fun _ => BlockStep.refl s) (fun _ => closeToGrowth_step _ s)).trans
        (gap_step _ _)) (fun _ => ?_)
    split
    · exact (joinOrdinal_step _ _ s).trans ((takeRef_step _ _ _).trans
        ((finaliseIfEnd_step _ _ _).trans ((finaliseOthers_step _ _).trans (bear_step _ _))))
    · exact BlockStep.ite _ (fun _ => gap_step _ s)
        (fun _ => (openOrdinal_step _ _ _ s).trans ((takeRef_step _ _ _).trans
          ((allocateBundle_step _ _ _).trans ((finaliseIfEnd_step _ _ _).trans
            ((finaliseOthers_step _ _).trans (bear_step _ _))))))

theorem birthDecision_step (m : LineState) (s : State) : BlockStep s (birthDecision m s) := by
  unfold birthDecision
  refine BlockStep.ite _ (fun _ => ?_) (fun _ => BlockStep.refl s)
  split
  · exact gap_step _ s
  · refine BlockStep.ite _ (fun _ => gap_step _ s) (fun _ => ?_)
    refine BlockStep.ite _ (fun _ => gap_step _ s) (fun _ => ?_)
    split
    · exact bear_step _ s
    · exact bearWaiting_step _ _ s
    · exact bearNewRoute_step _ s
    · exact bearGrowing_step _ _ s

end Sys2Proof.Machine
end

