-- ==== Sys2Proof/Laws/Motion.lean ====
section
/-! SUPPORT. What the line unit's operations promise: they keep the relations of the line unit, and
leave the counts, the settings, the pins and the host link alone. -/

namespace Sys2Proof.Machine

/-- What every change of line state promises: as `BlockStep`, but the line unit may change its state,
its flags, its causes and its timers, and keeps its relations (`LineSafe`). -/
structure MotionStep (s t : State) : Prop where
  host : t.host = s.host := by rfl
  geometry : t.geometry = s.geometry := by rfl
  inputs : t.inputs = s.inputs := by rfl
  pending : t.pending = s.pending := by rfl
  product : t.planner.product = s.planner.product := by rfl
  filmMass : t.planner.filmMass = s.planner.filmMass := by rfl
  inserts : t.planner.inserts = s.planner.inserts := by rfl
  nmax : t.planner.nmax = s.planner.nmax := by rfl
  mmax : t.planner.mmax = s.planner.mmax := by rfl
  burst : t.queue.burst = s.queue.burst := by rfl
  lowWater : t.queue.lowWater = s.queue.lowWater := by rfl
  remakeLimit : t.diverter.remakeLimit = s.diverter.remakeLimit := by rfl
  tolerance : t.diverter.tolerance = s.diverter.tolerance := by rfl
  bundleHold : t.stacker.holdLimit = s.stacker.holdLimit := by rfl
  ejectLimit : t.stacker.ejectLimit = s.stacker.ejectLimit := by rfl
  lmin : t.carrier.lmin = s.carrier.lmin := by rfl
  lmax : t.carrier.lmax = s.carrier.lmax := by rfl
  pitch : t.line.pitch = s.line.pitch := by rfl
  inPitch : t.line.inPitch = s.line.inPitch := by rfl
  backlash : t.line.backlash = s.line.backlash := by rfl
  holdLimit : t.line.holdLimit = s.line.holdLimit := by rfl
  keys : (t.store.map (fun r => r.key)).Sublist (s.store.map (fun r => r.key)) := by
    exact List.Sublist.refl _
  lead : LeadSafe s.carrier → LeadSafe t.carrier := by exact id
  units : UnitsSafe s.geometry.c s.units → UnitsSafe t.geometry.c t.units := by exact id
  safe : LineSafe s.line → LineSafe t.line := by exact id

theorem MotionStep.refl (s : State) : MotionStep s s := {}

theorem MotionStep.trans {s t u : State} (h : MotionStep s t) (k : MotionStep t u) :
    MotionStep s u where
  host := k.host.trans h.host
  geometry := k.geometry.trans h.geometry
  inputs := k.inputs.trans h.inputs
  pending := k.pending.trans h.pending
  product := k.product.trans h.product
  filmMass := k.filmMass.trans h.filmMass
  inserts := k.inserts.trans h.inserts
  nmax := k.nmax.trans h.nmax
  mmax := k.mmax.trans h.mmax
  burst := k.burst.trans h.burst
  lowWater := k.lowWater.trans h.lowWater
  remakeLimit := k.remakeLimit.trans h.remakeLimit
  tolerance := k.tolerance.trans h.tolerance
  bundleHold := k.bundleHold.trans h.bundleHold
  ejectLimit := k.ejectLimit.trans h.ejectLimit
  lmin := k.lmin.trans h.lmin
  lmax := k.lmax.trans h.lmax
  pitch := k.pitch.trans h.pitch
  inPitch := k.inPitch.trans h.inPitch
  backlash := k.backlash.trans h.backlash
  holdLimit := k.holdLimit.trans h.holdLimit
  keys := k.keys.trans h.keys
  lead := fun l => k.lead (h.lead l)
  units := fun u => k.units (h.units u)
  safe := fun l => k.safe (h.safe l)

theorem BlockStep.motion {s t : State} (h : BlockStep s t) : MotionStep s t where
  host := h.host
  geometry := h.geometry
  inputs := h.inputs
  pending := h.pending
  product := h.product
  filmMass := h.filmMass
  inserts := h.inserts
  nmax := h.nmax
  mmax := h.mmax
  burst := h.burst
  lowWater := h.lowWater
  remakeLimit := h.remakeLimit
  tolerance := h.tolerance
  bundleHold := h.holdLimit
  ejectLimit := h.ejectLimit
  lmin := h.lmin
  lmax := h.lmax
  pitch := by rw [h.line]
  inPitch := by rw [h.line]
  backlash := by rw [h.line]
  holdLimit := by rw [h.line]
  keys := h.keys
  lead := h.lead
  units := h.units
  safe := fun l => by rw [h.line]; exact l

theorem MotionStep.foldl {α : Type} (f : State → α → State) (h : ∀ s a, MotionStep s (f s a))
    (l : List α) : ∀ s, MotionStep s (l.foldl f s) := by
  induction l with
  | nil => exact MotionStep.refl
  | cons a l ih => exact fun s => (h s a).trans (ih _)

theorem MotionStep.ite {s t u : State} (c : Prop) [Decidable c] (h : c → MotionStep s t)
    (k : ¬c → MotionStep s u) : MotionStep s (if c then t else u) := by
  split
  · exact h ‹_›
  · exact k ‹_›

/-! ### Changes of line state -/

/-- Outside FAULTED no cause stands (R62). -/
theorem LineSafe.no_first {l : LineUnit} (h : LineSafe l) (k : l.state ≠ .faulted) : l.first = none := by
  cases e : l.first with
  | none => rfl
  | some c => exact absurd (h.1.1 (by rw [e]; rfl)) k

/-- The line unit with no cause, taken to a state that its drain flag allows, keeps its relations. -/
theorem enter_safe {l : LineUnit} (t : LineState) (hf : l.first = none) (hg : l.further = 0)
    (hp : l.pause = true → l.state.moving = true)
    (hq : l.period.isSome = true → l.state.moving = true)
    (hm : l.sinceMark.isSome = true → l.state.moving = true)
    (ht : t ≠ .faulted) (hd : t = .draining → l.drain = true) (hr : t = .running → l.drain = false)
    (hi : t = .idle → l.drain = false) : LineSafe (l.enter t) := by
  refine ⟨?_, fun _ => hg, ?_, ?_, ?_, hd, hr, hi⟩
  · simp [LineUnit.enter, hf, ht]
  · intro h
    simp only [LineUnit.enter] at h ⊢
    split at h
    · next e => rw [← e]; exact hp h
    · exact absurd h (by decide)
  · intro h
    simp only [LineUnit.enter] at h ⊢
    split at h
    · exact absurd h (by decide)
    · next e =>
      have := hq h
      simp_all
  · intro h
    simp only [LineUnit.enter] at h ⊢
    split at h
    · exact absurd h (by decide)
    · next e =>
      have := hm h
      simp_all

/-- Outside FAULTED the line may go to a state that its drain flag allows. -/
theorem LineSafe.enter {l : LineUnit} (h : LineSafe l) (t : LineState) (hs : l.state ≠ .faulted)
    (ht : t ≠ .faulted) (hd : t = .draining → l.drain = true) (hr : t = .running → l.drain = false)
    (hi : t = .idle → l.drain = false) : LineSafe (l.enter t) :=
  enter_safe t (h.no_first hs) (h.2.1 hs) h.2.2.1 h.2.2.2.1 h.2.2.2.2.1 ht hd hr hi

/-- A change of line state, with what it promises of the relations. -/
theorem enterLine_motion (t : LineState) (s : State)
    (h : LineSafe s.line → LineSafe (s.line.enter t)) : MotionStep s (enterLine t s) :=
  { safe := h }

theorem stopLine_motion (t : LineState) (s : State)
    (h : LineSafe s.line → LineSafe (s.line.enter t)) : MotionStep s (stopLine t s) :=
  (enterLine_motion t s h).trans (applyPending_step _).motion

/-- A fault from any state leaves the line FAULTED with a first cause. -/
theorem fault_safe {l : LineUnit} (c : FaultCause) (h : LineSafe l) (hs : l.state ≠ .faulted) :
    LineSafe { l.enter .faulted with first := some c } := by
  refine ⟨?_, fun k => absurd rfl k, ?_, ?_, ?_, fun k => (by cases k), fun k => (by cases k),
    fun k => (by cases k)⟩
  · simp [LineUnit.enter]
  · intro k
    simp [LineUnit.enter, hs] at k
  · intro k
    have := h.2.2.2.1
    simp only [LineUnit.enter] at k
    split at k
    · exact absurd k (by decide)
    · next e => have := this k; simp_all [LineState.moving]
  · intro k
    have := h.2.2.2.2.1
    simp only [LineUnit.enter] at k
    split at k
    · exact absurd k (by decide)
    · next e => have := this k; simp_all [LineState.moving]

theorem enterFault_motion (c : FaultCause) (s : State) (hs : s.line.state ≠ .faulted) :
    MotionStep s (enterFault c s) :=
  { safe := fun h => fault_safe c h hs }

theorem markWrapZone_step (s : State) : BlockStep s (markWrapZone s) := mapPieces_step _ s

theorem takeFault_motion (c : FaultCause) (s : State) : MotionStep s (takeFault c s) := by
  unfold takeFault
  split
  · exact MotionStep.refl s
  · next e => exact enterFault_motion c s (by rw [e]; decide)
  · next e => exact enterFault_motion c s (by rw [e]; decide)
  · next e =>
    exact (markWrapZone_step s).motion.trans
      (enterFault_motion c _ (by rw [(markWrapZone_step s).line, e]; decide))
  · next e =>
    exact (markWrapZone_step s).motion.trans
      (enterFault_motion c _ (by rw [(markWrapZone_step s).line, e]; decide))
  · next e =>
    exact { safe := fun h => ⟨h.1, fun k => absurd e k, h.2.2.1, h.2.2.2.1, h.2.2.2.2.1,
      h.2.2.2.2.2.1, h.2.2.2.2.2.2.1, h.2.2.2.2.2.2.2⟩ }

/-! ### Drain, start and settling -/

theorem drainBundle_step (s : State) (n : Nat) : BlockStep s (drainBundle s n) := by
  unfold drainBundle
  split
  · exact BlockStep.refl s
  · split
    · exact BlockStep.ite _ (fun _ => closeBundle_step _ _ s) (fun _ => closeBundle_step _ _ s)
    · exact BlockStep.ite _ (fun _ => closeBundle_step _ _ s) (fun _ => closeBundle_step _ _ s)
    · exact freeUnclosed_step _ _ s
    · exact BlockStep.refl s
    · exact BlockStep.refl s

/-- The blocks' part of a drain completion. -/
theorem drainBlocks_step (s : State) : BlockStep s (drainBlocks s) :=
  (BlockStep.ite _ (fun _ => (finaliseAtDrain_step s).trans (clearRequest_step _))
    (fun _ => finaliseAtDrain_step s)).trans (BlockStep.foldl _ drainBundle_step _ _)

/-- From DRAINING the line stops with its drain over. -/
theorem endDrain_motion (s : State) (hs : s.line.state = .draining) : MotionStep s (endDrain s) := by
  refine MotionStep.trans (t := enterLine .stopped { s with line := { s.line with drain := false } })
    { safe := fun l => ?_ } (applyPending_step _).motion
  have hf : s.line.state ≠ .faulted := by rw [hs]; decide
  exact enter_safe (l := { s.line with drain := false }) .stopped (l.no_first hf) (l.2.1 hf) l.2.2.1
    l.2.2.2.1 l.2.2.2.2.1 (by decide) (fun k => by cases k) (fun k => by cases k) (fun k => by cases k)

theorem completeDrain_motion (s : State) (hs : s.line.state = .draining) :
    MotionStep s (completeDrain s) :=
  (drainBlocks_step s).motion.trans
    (endDrain_motion _ (by rw [(drainBlocks_step s).line]; exact hs))

theorem drainTest_motion (s : State) : MotionStep s (drainTest s) :=
  MotionStep.ite _ (fun h => completeDrain_motion s h.1) (fun _ => MotionStep.refl s)

/-- The moving state of the job fits the drain flag. -/
theorem movingState_safe (s : State) (hs : s.line.state ≠ .faulted ) (l : LineSafe s.line) :
    LineSafe (s.line.enter (movingState s)) := by
  unfold movingState
  cases h : s.line.drain
  · exact l.enter .running hs (by decide) (fun k => by cases k) (fun _ => h) (fun k => by cases k)
  · exact l.enter .draining hs (by decide) (fun _ => h) (fun k => by cases k) (fun k => by cases k)

theorem startMoving_motion (s : State) (hs : s.line.state ≠ .faulted) :
    MotionStep s (startMoving s) :=
  (enterLine_motion _ s (movingState_safe s hs)).trans (drainTest_motion _)

theorem resumeIfClear_motion (s : State) : MotionStep s (resumeIfClear s) :=
  MotionStep.ite _ (fun h => startMoving_motion s (by rw [h.1]; decide))
    (fun _ => MotionStep.refl s)

theorem settle_motion (s : State) : MotionStep s (settle s) :=
  (resumeIfClear_motion s).trans (drainTest_motion _)

/-! ### Time -/

theorem advanceTimers_motion (n : Nat) (s : State) : MotionStep s (advanceTimers n s) where
  safe := fun l => by
    refine ⟨l.1, l.2.1, l.2.2.1, l.2.2.2.1, fun k => l.2.2.2.2.1 ?_, l.2.2.2.2.2⟩
    simpa [advanceTimers] using k

theorem takePocketJam_motion (p : PocketId) (s : State) : MotionStep s (takePocketJam p s) :=
  (setEjectTimer_step p _ s).motion.trans (takeFault_motion _ _)

theorem takeExpiry_motion (e : Expiry) (s : State) : MotionStep s (takeExpiry e s) := by
  have h : MotionStep s { s with draws := s.draws + 1 } := {}
  cases e with
  | hold => exact h.trans (takeFault_motion _ _)
  | eject p => exact h.trans (takePocketJam_motion p _)

theorem passTimeFrom_motion (fuel : Nat) :
    ∀ n s, MotionStep s (passTimeFrom fuel n s) := by
  induction fuel with
  | zero => exact fun n s => advanceTimers_motion n s
  | succ fuel ih =>
    intro n s
    unfold passTimeFrom
    split
    · exact advanceTimers_motion n s
    · exact MotionStep.ite _
        (fun _ => ((advanceTimers_motion _ s).trans (takeExpiry_motion _ _)).trans (ih _ _))
        (fun _ => advanceTimers_motion n s)

theorem passTime_motion (n : Nat) (s : State) : MotionStep s (passTime n s) :=
  passTimeFrom_motion 3 n s

/-! ### The pitch mark -/

theorem markEvent_motion (m : LineState) (s : State) (e : MarkEvent) :
    MotionStep s (markEvent m s e) := by
  cases e with
  | windowClose u =>
    exact MotionStep.ite _ (fun _ => MotionStep.refl s)
      (fun _ => (windowCloseAtMark_step u s).motion)
  | stackerArrival => exact (stackerArrival_step s).motion
  | diverterArrival => exact (diverterArrival_step s).motion
  | lookAhead => exact (lookAheadAtMark_step s).motion
  | holdExpiry => exact (holdExpiryTest_step s).motion
  | wrapArrival => exact (wrapArrival_step s).motion
  | verifyTimeout => exact (verifyTimeouts_step s).motion
  | verifyArrival => exact (verifyArrival_step s).motion
  | carrierArrival => exact (carrierArrival_step s).motion
  | printerJobs => exact (printerJobsAtMark_step s).motion
  | insertArrivals => exact (insertArrivals_step s).motion
  | birthDecision => exact (birthDecision_step m s).motion
  | drainTest => exact drainTest_motion s

theorem changeAtMark_motion (m : LineState) (s : State) : MotionStep s (changeAtMark m s) := by
  unfold changeAtMark
  split
  · next hm =>
    split
    · next e =>
      have hf : s.line.state ≠ .faulted := by
        rw [e]; intro k; rw [k] at hm; exact absurd hm (by decide)
      split
      · exact enterLine_motion _ s (fun l => l.enter .stopped hf (by decide)
          (fun k => by cases k) (fun k => by cases k) (fun k => by cases k))
      · split
        · exact enterLine_motion _ s (fun l => l.enter .holding hf (by decide)
            (fun k => by cases k) (fun k => by cases k) (fun k => by cases k))
        · exact MotionStep.refl s
    · exact MotionStep.refl s
  · exact takeFault_motion _ s

theorem endMark_motion (s : State) : MotionStep s (endMark s) := {}

/-- The events of a mark, with the drain test that closes them. -/
theorem markEvents_motion (m : LineState) (order : List MarkEvent) (s : State) :
    MotionStep s (markEvents m order s) :=
  (MotionStep.foldl _ (markEvent_motion m) _ s).trans (drainTest_motion _)

/-- Phase 0 of every unit. -/
theorem phaseZero_step (s : State) : BlockStep s (phaseZero s) :=
  BlockStep.foldl unitPhaseZero unitPhaseZero_step _ s

/-- Everything that follows the counts of a mark. -/
theorem pitchMark_motion (order : List MarkEvent) (s : State) :
    MotionStep (markBegun s) (pitchMark order s) :=
  (markEvents_motion s.line.state order (markBegun s)).trans
    ((phaseZero_step _).motion.trans ((changeAtMark_motion s.line.state _).trans (endMark_motion _)))

/-- The counts of a mark keep the relations of the line unit. -/
theorem countPitch_safe (s : State) (l : LineSafe s.line) : LineSafe (countPitch s).line := by
  refine ⟨l.1, l.2.1, l.2.2.1, ?_, ?_, l.2.2.2.2.2⟩
  · intro k
    simp only [countPitch] at k ⊢
    split at k
    · assumption
    · exact l.2.2.2.1 k
  · intro k
    simp only [countPitch] at k ⊢
    split at k
    · assumption
    · exact absurd k (by decide)

/-- A reverse count (R46). -/
theorem reverseCount_safe (s : State) (l : LineSafe s.line) : LineSafe (reverseCount s).line := by
  unfold reverseCount
  dsimp only
  split
  · exact (takeFault_motion _ _).safe l
  · exact l

end Sys2Proof.Machine
end

