-- ==== Sys2Proof/Laws/Timing.lean ====
section
/-! SUPPORT. The passing of time, one limit at a time; the drain test made twice; PRINTER-WAIT after a
job has changed. -/

namespace Sys2Proof.Machine

/-! ### A fault taken -/

/-- A fault leaves the stacker unit alone. -/
@[simp] theorem takeFault_stacker (c : FaultCause) (s : State) : (takeFault c s).stacker = s.stacker := by
  unfold takeFault
  cases s.line.state <;> rfl

/-- After a fault the line is not HOLDING. -/
@[simp] theorem takeFault_not_holding (c : FaultCause) (s : State) :
    (takeFault c s).line.state ≠ .holding := by
  unfold takeFault
  cases h : s.line.state <;> simp [enterFault, enterLine, LineUnit.enter, h]

/-! ### The limits that can expire -/

/-- The hold timer runs towards a limit. -/
def holdRuns (s : State) : Bool := decide (s.line.state = .holding) && decide (s.line.holdLimit ≠ 0)

/-- The eject timer of a pocket runs towards the limit, POCKET-JAM not raised yet. -/
def ejectRuns (p : PocketId) (s : State) : Bool :=
  decide (pocketState s p = .ejecting) && !(ejectTimer s p).jammed

/-- How many limits can still expire: at most three. -/
def limitsRunning (s : State) : Nat :=
  (holdRuns s).toNat + (ejectRuns .a s).toNat + (ejectRuns .b s).toNat

theorem holdRemaining_isSome (s : State) : (holdRemaining s).isSome = holdRuns s := by
  simp only [holdRemaining, holdRuns]
  by_cases h1 : s.line.state = .holding <;> by_cases h2 : s.line.holdLimit = 0 <;> simp [h1, h2]

theorem ejectRemaining_isSome (s : State) (p : PocketId) :
    (ejectRemaining s p).isSome = ejectRuns p s := by
  simp only [ejectRemaining, ejectRuns]
  by_cases h1 : pocketState s p = .ejecting <;> cases h2 : (ejectTimer s p).jammed <;> simp [h1]

/-- The state of a pocket is read off the bundles alone. -/
theorem pocketState_congr {s t : State} (h : t.stacker.bundles = s.stacker.bundles) (p : PocketId) :
    pocketState t p = pocketState s p := by
  simp [pocketState, bundleIn, h]

theorem advanceTimers_holdRuns (n : Nat) (s : State) : holdRuns (advanceTimers n s) = holdRuns s := rfl

theorem advanceTimers_jammed (n : Nat) (s : State) (p : PocketId) :
    (ejectTimer (advanceTimers n s) p).jammed = (ejectTimer s p).jammed := by
  cases p <;> simp only [ejectTimer, advanceTimers] <;> split <;> rfl

theorem advanceTimers_ejectRuns (n : Nat) (s : State) (p : PocketId) :
    ejectRuns p (advanceTimers n s) = ejectRuns p s := by
  rw [ejectRuns, ejectRuns, pocketState_congr (s := s) (t := advanceTimers n s) rfl, advanceTimers_jammed]

@[simp] theorem setEjectTimer_bundles (p : PocketId) (t : EjectTimer) (s : State) :
    (setEjectTimer p t s).stacker.bundles = s.stacker.bundles := by cases p <;> rfl

theorem takeExpiry_holdRuns (e : Expiry) (s : State) : holdRuns (takeExpiry e s) = false := by
  cases e <;> simp [takeExpiry, takeHoldTimeout, takePocketJam, holdRuns]

theorem takeExpiry_bundles (e : Expiry) (s : State) :
    (takeExpiry e s).stacker.bundles = s.stacker.bundles := by
  cases e <;> simp [takeExpiry, takeHoldTimeout, takePocketJam]

theorem takeExpiry_jammed (e : Expiry) (s : State) (p : PocketId) :
    (ejectTimer (takeExpiry e s) p).jammed = ((ejectTimer s p).jammed || decide (e = .eject p)) := by
  cases e with
  | hold => cases p <;> simp [takeExpiry, takeHoldTimeout, ejectTimer]
  | eject q => cases p <;> cases q <;> simp [takeExpiry, takePocketJam, ejectTimer, setEjectTimer]

theorem takeExpiry_ejectRuns (e : Expiry) (s : State) (p : PocketId) :
    ejectRuns p (takeExpiry e s) = (ejectRuns p s && !decide (e = .eject p)) := by
  rw [ejectRuns, ejectRuns, takeExpiry_jammed, pocketState_congr (takeExpiry_bundles e s)]
  cases decide (pocketState s p = .ejecting) <;> cases (ejectTimer s p).jammed <;>
    cases decide (e = .eject p) <;> rfl

/-- The next limit is one that runs. -/
theorem nextExpiry_runs {s : State} {t : Nat} {e : Expiry} (h : nextExpiry s = some (t, e)) :
    (e = .hold ∧ holdRuns s = true) ∨ ∃ p, e = .eject p ∧ ejectRuns p s = true := by
  simp only [nextExpiry, ← holdRemaining_isSome, ← ejectRemaining_isSome] at *
  cases hh : holdRemaining s <;> cases ha : ejectRemaining s .a <;> cases hb : ejectRemaining s .b <;>
    simp only [hh, ha, hb, sooner, Option.map_some, Option.map_none] at h <;>
    (try split_ifs at h) <;> simp only [Option.some.injEq, Prod.mk.injEq, reduceCtorEq] at h <;>
    obtain ⟨-, rfl⟩ := h <;>
    first
      | (left; exact ⟨rfl, rfl⟩)
      | (right; exact ⟨.a, rfl, by rw [ha]; rfl⟩)
      | (right; exact ⟨.b, rfl, by rw [hb]; rfl⟩)

/-- A limit taken runs no more, and no other one begins to. -/
theorem takeExpiry_limitsRunning {s : State} {t : Nat} {e : Expiry} (n : Nat)
    (h : nextExpiry s = some (t, e)) :
    limitsRunning (takeExpiry e (advanceTimers n s)) < limitsRunning s := by
  simp only [limitsRunning, takeExpiry_holdRuns, takeExpiry_ejectRuns, advanceTimers_ejectRuns]
  rcases nextExpiry_runs h with ⟨rfl, hl⟩ | ⟨p, rfl, hl⟩
  · simp [hl]
  · cases p <;> simp [hl]

theorem nextExpiry_none {s : State} (h : limitsRunning s = 0) : nextExpiry s = none := by
  cases he : nextExpiry s with
  | none => rfl
  | some x => have := takeExpiry_limitsRunning 0 he; omega

/-- A count of steps that is enough for the limits that run is enough. -/
theorem passTimeFrom_enough : ∀ (k n : Nat) (s : State), limitsRunning s ≤ k →
    passTimeFrom k n s = passTimeFrom (k + 1) n s := by
  intro k
  induction k with
  | zero => intro n s h; simp [passTimeFrom, nextExpiry_none (s := s) (by omega)]
  | succ k ih =>
    intro n s h
    rw [passTimeFrom, passTimeFrom]
    cases he : nextExpiry s with
    | none => rfl
    | some x =>
      dsimp only
      split
      · have := takeExpiry_limitsRunning x.1 he
        exact ih _ _ (by omega)
      · rfl

/-- The passing of time by its next limit: none within the span, or it is taken at its moment and the
rest of the span passes after it. -/
theorem passTime_eq (n : Nat) (s : State) : passTime n s = match nextExpiry s with
    | none => advanceTimers n s
    | some (t, e) =>
      if t ≤ n then passTime (n - t) (takeExpiry e (advanceTimers t s)) else advanceTimers n s := by
  rw [passTime, passTimeFrom]
  cases he : nextExpiry s with
  | none => rfl
  | some x =>
    dsimp only
    split
    · have := takeExpiry_limitsRunning x.1 he
      have h3 : limitsRunning s ≤ 3 := by
        simp only [limitsRunning]
        cases holdRuns s <;> cases ejectRuns .a s <;> cases ejectRuns .b s <;> decide
      exact passTimeFrom_enough _ _ _ (by omega)
    · rfl

/-! ### The drain test -/

/-- A drain test made twice is the drain test. -/
theorem drainTest_drainTest (s : State) : drainTest (drainTest s) = drainTest s := by
  by_cases h : s.line.state = .draining ∧ drainConditions s = true
  · have l : (drainTest s).line.state = .stopped := by
      have e : drainTest s = completeDrain s := by simp [drainTest, h]
      rw [e, completeDrain, endDrain, stopLine, (applyPending_step _).line]
      rfl
    rw [drainTest.eq_1 (drainTest s), if_neg (by simp [l])]
  · have e : drainTest s = s := by rw [drainTest, if_neg h]
    rw [e, e]

/-! ### PRINTER-WAIT -/

/-- PRINTER-WAIT stands on only while a job marked waiting is DUE or SENT (R99). -/
theorem updatePrinterWait_eq (s : State) : updatePrinterWait s =
    { s with
      holds :=
        { s.holds with
          causes :=
            { s.holds.causes with
              printerWait := s.holds.causes.printerWait && s.tracking.pieces.any Piece.keepsWaiting } } } := by
  unfold updatePrinterWait
  by_cases h : s.tracking.pieces.any Piece.keepsWaiting = true
  · simp [h]
  · simp [h, clearPrinterWait]

end Sys2Proof.Machine
end

