-- ==== Sys2Proof/Tests/Slice0.lean ====
section
/-! SUPPORT. The model's own tests: ill-formed commands refused, frames and link messages written out
from the spec's layouts, one or two small steps of each command with the spec's values, and a witness
for the hypotheses of each statement. -/

open Sys2Proof Sys2Proof.Machine

namespace Sys2Proof.Tests

/-! ### Helpers -/

/-- The state after a command, whatever it was. -/
def after (c : Instr) (s : State) : State :=
  match exec c s with
  | .next t => t
  | .fault _ => s
  | .refused _ => s

/-- The geometry of the worked sequence of chapter 4: C = 400, I1 to I3 fitted, S = 17. -/
def line17 : GeometryFields :=
  { c := 400, fitted := 7, offsets := [1, 2, 3, 0, 0, 0], cOff := 5, v := 7, w := 9, x := 11, g := 13,
    d := 15, s := 17 }

/-- A part with its geometry set, in IDLE. -/
def fitted : State := { State.reset with geometry := geometryOf line17 }

/-- The same part in a line state, at a pitch and an in-pitch count. -/
def lineAt (l : LineState) (pitch : Nat) (phase : Nat) : State :=
  { fitted with
    line := { fitted.line with state := l, pitch := BitVec.ofNat 32 pitch, inPitch := phase } }

/-- A LOAD record without text or version. -/
def loadRecord (key route sequence : Nat) (last : Bool) : LoadRecord :=
  { key := key, route := route, sequence := sequence, version := 0, endOfRoute := last, text := [] }

/-- An address record as LOAD makes it. -/
def record (key : Nat) : Record := loadedRecord State.reset.planner (loadRecord key 300 key false)

/-- A piece of a record, born at a pitch, of bundle 1. -/
def pieceOfKey (number birth key : Nat) : Piece :=
  { number := BitVec.ofNat 16 number, birthPitch := BitVec.ofNat 32 birth, key := key, version := 0,
    delivered := 0, remake := false, stage := .carried, defects := [], overflow := 0,
    overflowed := [], job := .sent, lead := 2, waiting := false, verify := none, thickness := none,
    bundle := 1, claim := false }

/-- A bundle record of number 1 in a state and a pocket, with two of three members stacked. -/
def bundle1 (b : BundleState) (p : Option PocketId) : Bundle :=
  { number := 1, route := 300, plan := 0, ordinal := 0, state := b, pocket := p, plannedCount := 3,
    plannedMass := 720, final := true, overmass := false, stackedCount := 2, stackedMass := 480,
    members := [1, 3], short := false, reason := none, holdStart := none, claim := false }

/-- A part with one QUEUED record of key 7, in IDLE. -/
def queued7 : State :=
  { fitted with store := [record 7], queue := { fitted.queue with order := [7] } }

/-- A part with a bundle of two stacked members in pocket A. -/
def bundled (b : BundleState) (p : Option PocketId) : State :=
  { lineAt .running 20 0 with
    store := [{ record 1 with state := .stacked }, { record 3 with state := .stacked }]
    stacker := { fitted.stacker with bundles := [bundle1 b p] } }

/-- A part RUNNING at pitch 20 with piece 5 of record 2 at a position and its bundle in a state. -/
def tracked (spot : Nat) (b : BundleState) (p : Option PocketId) : State :=
  { bundled b p with
    store :=
      [{ record 1 with state := .stacked }, { record 3 with state := .stacked },
        { record 2 with state := .inFlight, bundle := some 1 }]
    tracking := { fitted.tracking with pieces := [pieceOfKey 5 (20 - spot) 2] }
    carrier := { fitted.carrier with jobs := [5] }
    verify := { fitted.verify with expected := [5] } }

/-- A part with an exception entry of record 9. -/
def excepted : State :=
  { fitted with
    store := [{ record 9 with state := .exception }]
    stacker :=
      { fitted.stacker with
        exceptions :=
          [{ key := 9, disposition := .spoiled, defect := some .noRead, piece := some 4,
             remakeCount := 2 }] } }

/-- A part whose reset input is asserted. -/
def held : State := { fitted with inputs := { fitted.inputs with reset := true } }

/-- A part with an operation in progress. -/
def during (o : Operation) : State :=
  { fitted with host := { fitted.host with operation := some o, slot := .pending } }

/-! ### Well-formedness: each check refuses an ill-formed command -/

theorem test_wf_geometry : (Instr.setGeometry (.fields { line17 with c := 65536 })).wf = false := by
  decide
theorem test_wf_geometry_offsets :
    (Instr.setGeometry (.fields { line17 with offsets := [1, 2] })).wf = false := by decide
theorem test_wf_geometry_offset :
    (Instr.setGeometry (.fields { line17 with offsets := [256, 2, 3, 0, 0, 0] })).wf = false := by
  decide
theorem test_wf_product :
    (Instr.setProduct (.fields ⟨100, 30, 256, 1, 300, 400, 20⟩)).wf = false := by decide
theorem test_wf_insert : (Instr.setInsert (.fields ⟨1, 65536, 0, true⟩)).wf = false := by decide
theorem test_wf_limits : (Instr.setBundleLimits (.fields ⟨65536, 1⟩)).wf = false := by decide
theorem test_wf_remake : (Instr.setRemake (.fields ⟨4, 256, 5⟩)).wf = false := by decide
theorem test_wf_printer : (Instr.setPrinter (.fields ⟨8, 32, 2, 1, 2, 256⟩)).wf = false := by decide
theorem test_wf_unit : (Instr.setUnit (.fields ⟨0, true, 10, 65536, 0⟩)).wf = false := by decide
theorem test_wf_hold : (Instr.setHold (.fields ⟨65536, 24, 3000⟩)).wf = false := by decide
theorem test_wf_job : (Instr.jobSetup (.fields ⟨32, 256⟩)).wf = false := by decide
theorem test_wf_load : (Instr.load (.fields [loadRecord 4294967296 1 1 false])).wf = false := by
  decide
theorem test_wf_find : (Instr.find (.fields 4294967296)).wf = false := by decide
theorem test_wf_amend : (Instr.amend (.fields ⟨4294967296, none, none⟩)).wf = false := by decide
theorem test_wf_withdraw : (Instr.withdraw (.fields 4294967296)).wf = false := by decide
theorem test_wf_readBundle : (Instr.readBundle (.fields ⟨1, 256⟩)).wf = false := by decide
theorem test_wf_releaseBundle : (Instr.releaseBundle (.fields 65536)).wf = false := by decide
theorem test_wf_releaseExceptions : (Instr.releaseExceptions (.fields 256)).wf = false := by decide
theorem test_wf_snapshot : (Instr.snapshot (.fields ⟨256, 0, 0⟩)).wf = false := by decide
theorem test_wf_count : (Instr.encoderForwardCount ⟨1, 1024, []⟩).wf = false := by decide
theorem test_wf_refuse : (Instr.refuse 1 256).wf = false := by decide
theorem test_wf_printerState : (Instr.printerState 256).wf = false := by decide
theorem test_wf_read : (Instr.read (some 4294967296) 0).wf = false := by decide
theorem test_wf_accepts : (Instr.setGeometry (.fields line17)).wf = true := by decide

/-! ### Frames and link messages, written out from chapter 10 -/

/-- RUN is 22h without a payload. -/
theorem test_frame_run : decodeFrame [0x22, 0] = some (.run (.fields ())) := by decide
/-- WITHDRAW 33h carries a key of 4 bytes, least significant first. -/
theorem test_frame_withdraw :
    decodeFrame [0x33, 4, 1, 2, 3, 4] = some (.withdraw (.fields 0x04030201)) := by decide
/-- SET BUNDLE LIMITS 13h carries Nmax and Mmax in 2 bytes each. -/
theorem test_frame_limits :
    decodeFrame [0x13, 4, 3, 0, 0x10, 0x27] = some (.setBundleLimits (.fields ⟨3, 10000⟩)) := by
  decide
/-- SET UNIT 16h: unit, enable, on, off, latency. -/
theorem test_frame_unit :
    decodeFrame [0x16, 8, 14, 1, 150, 0, 230, 0, 0xE0, 0x2E]
      = some (.setUnit (.fields ⟨14, true, 150, 230, 12000⟩)) := by decide
/-- A LOAD of one record: key, route, sequence, flags with bit 6 end of route, and the text "AB", packed
7 bits a symbol: 41h + 128 × 42h = 2141h. -/
theorem test_frame_load :
    decodeFrame [0x30, 15, 1, 7, 0, 0, 0, 0x2C, 1, 0, 0, 5, 0, 0x43, 2, 0x41, 0x21]
      = some (.load (.fields
          [{ key := 7, route := 300, sequence := 5, version := 3, endOfRoute := true,
             text := [0x41#7, 0x42#7] }])) := by decide
/-- A payload of wrong length is out of form. -/
theorem test_frame_malformed : decodeFrame [0x22, 1, 0] = some (.run .malformed) := by decide
/-- One byte is no frame, and a length byte that does not fit is no frame. -/
theorem test_frame_short :
    decodeFrame [0x22] = some (.frameRefused .frame)
      ∧ decodeFrame [0x22, 1] = some (.frameRefused .frame) := by decide
/-- 99h is no command code. -/
theorem test_frame_unknown : decodeFrame [0x99, 0] = some (.frameRefused .unknown) := by decide
/-- F0h begins a response read. -/
theorem test_frame_response : decodeFrame [0xF0, 0, 0] = some (.responseRead 2) := by decide
/-- ACCEPT of piece 0105h: type 11h, length 2, check byte E7h makes the sum 0. -/
theorem test_message_accept : decodePrinterMessage [0x11, 2, 5, 1, 0xE7] = .accept 0x0105 := by
  decide
/-- A wrong check byte discards the message. -/
theorem test_message_check :
    decodePrinterMessage [0x11, 2, 5, 1, 0xE8] = .carrierMessageDiscarded := by decide
/-- REFUSE carries a piece number and a reason. -/
theorem test_message_refuse : decodePrinterMessage [0x13, 3, 5, 0, 2, 0xE3] = .refuse 5 2 := by
  decide
/-- READ: key, corrected-symbol count, flags. -/
theorem test_message_read :
    decodeReaderMessage [0x21, 6, 7, 0, 0, 0, 2, 0, 0xD0] = .read (some 7) 2 := by decide
/-- With NOREAD set the key is ignored. -/
theorem test_message_noread :
    decodeReaderMessage [0x21, 6, 7, 0, 0, 0, 2, 1, 0xCF] = .read none 2 := by decide
/-- The opcode table gives no row bits. -/
theorem test_no_table_words (n w : Nat) : decodeTableWord n w = none := rfl

/-! ### Commands -/

/-- The answer of IDENTIFY read whole, with status 80h for OK and length 3, and zeros after it. -/
theorem test_responseRead :
    (after (.responseRead 7) (after (.identify (.fields ())) fitted)).host.clockedOut
      = [0x80, 3, 0x46, 0x0A, 1, 0, 0] := by decide
/-- A read of all but one byte leaves the response in the slot. -/
theorem test_responseRead_part :
    (after (.responseRead 4) (after (.identify (.fields ())) fitted)).host.slot
      = .formed .ok [0x46, 0x0A, 1] := by decide
theorem test_frameRefused :
    (after (.frameRefused .unknown) (during .clearConfirm)).host.slot = .formed .unknown [] := by
  decide
/-- STATUS leaves a job setup in the latch. -/
theorem test_status_keeps_latch :
    (after (.status (.fields ())) (after (.jobSetup (.fields ⟨32, 12⟩)) fitted)).host.latch
      = .job 32 12 := by decide
theorem test_identify :
    (after (.identify (.fields ())) fitted).host.slot = .formed .ok [0x46, 0x0A, 1] := by decide
/-- C_off = 5 lowers the lead range to 4 × 4 quarter-pitches. -/
theorem test_setGeometry : (after (.setGeometry (.fields line17)) State.reset).carrier.lmax = 16 := by
  decide
/-- A C of 99 counts is out of range. -/
theorem test_setGeometry_range :
    (after (.setGeometry (.fields { line17 with c := 99 })) State.reset).host.slot
      = .formed .range [] := by decide
/-- The film of the example of section 2.1 weighs 3.9744 g, which rounds to 4 g. -/
theorem test_setProduct :
    (after (.setProduct (.fields ⟨230, 48, 6, 1, 320, 540, 23⟩)) queued7).planner.filmMass = 4 := by
  decide
/-- A record of the empty version then weighs 240 g. -/
theorem test_setProduct_nominal :
    (after (.setProduct (.fields ⟨230, 48, 6, 1, 320, 540, 23⟩)) queued7).store.map
      (fun r => (r.nominalMass, r.nominalThickness)) = [(240, 49)] := by decide
theorem test_setInsert :
    (after (.setInsert (.fields ⟨2, 18, 6, false⟩)) fitted).planner.inserts.getD 1 InsertSettings.initial
      = ⟨18, 6, false⟩ := by decide
/-- Nmax 0 stands for 256, and Mmax 400 is clamped to 500. -/
theorem test_setBundleLimits :
    (after (.setBundleLimits (.fields ⟨0, 400⟩)) fitted).host.slot
      = .formed .okClamped [0, 1, 0xF4, 1] := by decide
theorem test_setRemake :
    (after (.setRemake (.fields ⟨9, 2, 5⟩)) fitted).host.slot = .formed .okClamped [8, 2, 5] := by
  decide
/-- Lq is brought into the new range at once. -/
theorem test_setPrinter :
    (after (.setPrinter (.fields ⟨13, 14, 2, 1, 2, 3⟩)) fitted).carrier.lq = 13 := by decide
theorem test_setPrinter_range :
    (after (.setPrinter (.fields ⟨9, 8, 2, 1, 2, 3⟩)) fitted).host.slot = .formed .range [] := by
  decide
/-- In motion the values used become pending settings. -/
theorem test_setUnit_pending :
    (unitAt (after (.setUnit (.fields ⟨15, true, 20, 120, 0⟩)) (lineAt .running 700 310)) 15).pending
      = some ⟨true, 20, 120, 0⟩ := by decide
/-- At rest they take effect at once, and a latency of a window unit is taken as 0. -/
theorem test_setUnit_now :
    (after (.setUnit (.fields ⟨15, true, 300, 40, 9⟩)) fitted).host.slot
      = .formed .okClamped [15, 1, 0x2C, 1, 40, 0, 0, 0, 0] := by decide
theorem test_setHold :
    (after (.setHold (.fields ⟨60001, 8, 99⟩)) fitted).host.slot
      = .formed .okClamped [0x60, 0xEA, 8, 0, 100, 0] := by decide
theorem test_setAttention :
    (after (.setAttention (.fields 0x40)) fitted).host.slot = .formed .range [] := by decide
theorem test_jobSetup_unset :
    (after (.jobSetup (.fields ⟨32, 8⟩)) State.reset).host.slot = .formed .state [] := by decide
/-- Values out of range are converted and answered OK-CLAMPED. -/
theorem test_jobSetup :
    (after (.jobSetup (.fields ⟨512, 3⟩)) fitted).host.slot = .formed .okClamped [0xFF, 1, 4] := by
  decide
theorem test_jobConfirm_sequence :
    (after (.jobConfirm (.fields ())) fitted).host.slot = .formed .sequence [] := by decide
/-- JOB CONFIRM begins the long operation with the values of the latch. -/
theorem test_jobConfirm :
    (after (.jobConfirm (.fields ())) (after (.jobSetup (.fields ⟨32, 8⟩)) fitted)).host.operation
      = some (.jobConfirm 32 8) := by decide
/-- Lq takes the start value brought into Lmin to Lmax. -/
theorem test_jobConfirmCompletion :
    (after .jobConfirmCompletion (during (.jobConfirm 32 5))).carrier.lq = 8 := by decide
theorem test_jobConfirmCompletion_line :
    (after .jobConfirmCompletion (during (.jobConfirm 32 5))).line.state = .stopped := by decide
theorem test_run : (after (.run (.fields ())) (lineAt .stopped 0 0)).line.state = .running := by
  decide
theorem test_run_idle : (after (.run (.fields ())) fitted).host.slot = .formed .state [] := by
  decide
theorem test_pause : (after (.pause (.fields ())) (lineAt .running 3 7)).line.pause = true := by
  decide
/-- A drain whose conditions hold already completes in the act. -/
theorem test_drain : (after (.drain (.fields ())) (lineAt .running 3 7)).line.state = .stopped := by
  decide
theorem test_clearSetup :
    (after (.clearSetup (.fields ())) (lineAt .running 3 7)).host.slot = .formed .state [] := by
  decide
theorem test_clearConfirm :
    (after (.clearConfirm (.fields ())) (after (.clearSetup (.fields ())) fitted)).host.operation
      = some .clearConfirm := by decide
/-- The completion answers OK with the free count 512. -/
theorem test_clearConfirmCompletion :
    (after .clearConfirmCompletion (during .clearConfirm)).host.slot = .formed .ok [0, 2] := by
  decide
/-- RESET abandons a confirm and sets CLEARED. -/
theorem test_reset :
    (after (.reset (.fields ())) (during .clearConfirm)).host.cleared = true := by decide
/-- The LOAD of section 1.5 that stops at ORDER: two records accepted. -/
theorem test_load :
    (after (.load (.fields [loadRecord 70411 40 119 false, loadRecord 70412 40 120 true,
        loadRecord 70413 40 121 false, loadRecord 70414 41 1 false]))
      { fitted with
        queue := { fitted.queue with lastKey := some ⟨40, 118⟩, lastEnded := some 39 } }).host.slot
      = .formed .partialResult [2, 9, 0xFE, 1] := by decide
theorem test_load_unset :
    (after (.load (.fields [loadRecord 1 40 119 false])) State.reset).host.slot
      = .formed .state [0, 0, 0, 2] := by decide
theorem test_find : (after (.find (.fields 8)) queued7).host.slot = .formed .notFound [] := by
  decide
theorem test_amend :
    (after (.amend (.fields ⟨7, none, some 2⟩)) queued7).store.map (fun r => (r.version, r.amendCount))
      = [(2, 1)] := by decide
/-- An AMEND that carries neither text nor version is refused with RANGE. -/
theorem test_amend_range :
    (after (.amend (.fields ⟨7, none, none⟩)) queued7).host.slot = .formed .range [] := by decide
theorem test_withdraw_queued :
    (after (.withdraw (.fields 7)) queued7).store = [] := by decide
/-- A piece before the diverter: withdraw-pending, reporting IN-FLIGHT. -/
theorem test_withdraw_inFlight :
    (after (.withdraw (.fields 2)) (tracked 8 .forming none)).host.slot = .formed .ok [2] := by
  decide
theorem test_readBundle :
    (after (.readBundle (.fields ⟨0, 0⟩)) fitted).host.slot = .formed .notFound [] := by decide
/-- Releasing the bundle frees its two members. -/
theorem test_releaseBundle :
    (after (.releaseBundle (.fields 1)) (bundled .closed none)).host.slot = .formed .ok [2, 0] := by
  decide
theorem test_releaseBundle_state :
    (after (.releaseBundle (.fields 1)) (bundled .held (some .a))).host.slot
      = .formed .state [] := by decide
/-- One entry: key 9, SPOILED, NO-READ, piece 4, remake count 2. -/
theorem test_readExceptions :
    ((after (.readExceptions (.fields ())) excepted).stacker.exceptions.length,
      (after (.readExceptions (.fields ())) excepted).store.length) = (1, 1) := by decide
theorem test_releaseExceptions :
    ((after (.releaseExceptions (.fields 10)) excepted).store,
      (after (.releaseExceptions (.fields 10)) excepted).host.slot) = ([], .formed .ok [1]) := by
  decide
/-- The line item and unit U3 are newly latched. -/
theorem test_snapshot :
    (after (.snapshot (.fields ⟨1, 0, 8⟩)) fitted).host.slot = .formed .ok [2, 0] := by decide
theorem test_snapshot_range :
    (after (.snapshot (.fields ⟨0, 0, 0⟩)) fitted).host.slot = .formed .range [] := by decide
/-- A snapshot that has been read is latched no more. -/
theorem test_readSnapshot :
    latchedCount (after (.readSnapshot (.fields ())) (after (.snapshot (.fields ⟨1, 0, 8⟩)) fitted)).host
      = 0 := by decide

/-! ### Events -/

theorem test_pinResetAssert : rdy (after .pinResetAssert fitted) = false := by decide
theorem test_pinResetRelease :
    (after .pinResetRelease held).geometry.isSet = false := by decide
/-- Reverse motion near a pitch mark (section 3.1): the mark at the fifth count raises OVERRUN. -/
theorem test_forwardCount_overrun :
    (after (.encoderForwardCount ⟨0, 0, []⟩) (lineAt .stopped 0 399)).line.first
      = some .overrun := by decide +kernel
/-- A forward count repays backlash first. -/
theorem test_forwardCount_backlash :
    (after (.encoderForwardCount ⟨0, 0, []⟩)
      (after (.encoderReverseCount 0) (lineAt .stopped 0 395))).line.inPitch = 395 := by decide
/-- The backlash count exceeds C: REVERSE. -/
theorem test_reverseCount :
    (after (.encoderReverseCount 0)
      { lineAt .stopped 0 395 with line := { (lineAt .stopped 0 395).line with backlash := 400 } }).line.first
      = some .reverse := by decide
/-- GUARD at pitch 20: the piece at position 9, in the wrap zone, receives WRAP-ABORT. -/
theorem test_faultInputActive :
    (after (.faultInputActive .guard) (tracked 9 .forming none)).tracking.pieces.map (fun p => p.defects)
      = [[⟨.wrapAbort, .wrap⟩]] := by decide
theorem test_faultInputActive_faulted :
    (after (.faultInputActive .jam) (lineAt .running 3 7)).line.first = some .jam := by decide
theorem test_faultInputInactive :
    (after (.faultInputInactive .jam)
      (after (.faultInputActive .jam) (lineAt .running 3 7))).line.state = .faulted := by decide
/-- The CLEAR edge closes the bundle, its members BUNDLED. -/
theorem test_clearEdge :
    (after (.clearEdge .a) (bundled .ejecting (some .a))).store.map (fun r => r.state)
      = [.bundled, .bundled] := by decide
theorem test_clearEdge_closed :
    (after (.clearEdge .a) (bundled .ejecting (some .a))).stacker.closedOrder = [1] := by decide
theorem test_pocketJam :
    (after (.pocketJam .a) (bundled .ejecting (some .a))).line.first = some .pocketJam := by decide
theorem test_holdTimeout :
    (after .holdTimeout (lineAt .holding 3 0)).line.first = some .holdTimeout := by decide
/-- A bundle HELD since mark 13 under the default limit 24 stays; at age 24 it closes SHORT. -/
theorem test_holdExpired :
    (after .holdExpired
      { bundled .held (some .a) with
        stacker :=
          { fitted.stacker with
            bundles := [{ bundle1 .held (some .a) with holdStart := some (20#32 - 24#32) }] } }
      ).stacker.bundles.map (fun b => (b.state, b.reason, b.short))
      = [(.ejecting, some .holdExpired, true)] := by decide
theorem test_holdExpired_young :
    (after .holdExpired
      { bundled .held (some .a) with
        stacker :=
          { fitted.stacker with
            bundles := [{ bundle1 .held (some .a) with holdStart := some 13 }] } }
      ).stacker.bundles.map (fun b => b.state) = [.held] := by decide
/-- A limit lowered from 24 to 8 since the last mark closes nothing before the next one. -/
theorem test_holdExpired_lowered :
    (after .holdExpired
      { bundled .held (some .a) with
        stacker :=
          { fitted.stacker with
            holdLimit := 8
            bundles := [{ bundle1 .held (some .a) with holdStart := some 10 }] } }
      ).stacker.bundles.map (fun b => b.state) = [.held] := by decide
/-- A piece at V + 3 = 10 times out with NO-READ. -/
theorem test_verifyTimeout :
    (after .verifyTimeout (tracked 10 .forming none)).tracking.pieces.map (fun p => p.defects)
      = [[⟨.noRead, .verify⟩]] := by decide
theorem test_accept :
    (after (.accept 5) (tracked 4 .forming none)).tracking.pieces.map (fun p => p.job) = [.accepted] := by
  decide
theorem test_printed : (after (.printed 5) (tracked 4 .forming none)).carrier.jobs = [] := by decide
theorem test_refuse :
    (after (.refuse 5 2) (tracked 4 .forming none)).carrier.lastRefusal = some ⟨5, 2⟩ := by decide
theorem test_printerState : (after (.printerState 1) fitted).carrier.ready = true := by decide
theorem test_printerState_other : (after (.printerState 2) fitted).carrier.linkErrors = 1 := by
  decide
theorem test_carrierMessageDiscarded :
    (after .carrierMessageDiscarded fitted).carrier.linkErrors = 1 := by decide
theorem test_carrierTransmitDone : (after .carrierTransmitDone fitted).carrier.transmitting = none := by
  decide
/-- The piece's own key with 5 corrected symbols, above the margin threshold 3. -/
theorem test_read_marginal :
    (after (.read (some 2) 5) (tracked 8 .forming none)).tracking.pieces.map
      (fun p => p.verify.map (fun v => v.grade)) = [some .marginal] := by decide
/-- A key of no neighbour: MISMATCH, recorded as KEY-MISMATCH. -/
theorem test_read_mismatch :
    (after (.read (some 61011) 0) (tracked 8 .forming none)).tracking.pieces.map (fun p => p.defects)
      = [[⟨.keyMismatch, .verify⟩]] := by decide
theorem test_readDiscarded : (after (.readDiscarded .malformed) fitted).verify.linkErrors = 1 := by
  decide
theorem test_readDiscarded_stray : (after (.readDiscarded .emptyList) fitted).verify.strays = 1 := by
  decide
/-- An edge in an open window of U15 is counted. -/
theorem test_stationInputEdge :
    (unitAt (after (.stationInputEdge .cut)
      (updateUnit 15 (fun u => { u with window := some ⟨20, true, 120, 1, none⟩ }) fitted)) 15).window
      = some ⟨20, true, 120, 2, none⟩ := by decide
theorem test_stationInputEdge_closed : after (.stationInputEdge .cut) fitted = fitted := by decide

/-! ### Witnesses: states and operands that meet the hypotheses of each statement -/

/-- A part FAULTED by GUARD. -/
def faulted : State :=
  { lineAt .faulted 3 7 with line := { (lineAt .faulted 3 7).line with first := some .guard } }

/-- A part DRAINING with the drain flag set. -/
def draining : State :=
  { lineAt .draining 3 7 with line := { (lineAt .draining 3 7).line with drain := true } }

/-- A part whose drain flag is set at rest. -/
def drainAtRest (s : State) : State :=
  { s with line := { s.line with state := .stopped, drain := true } }

/-- A part with a fault input active. -/
def jammed (s : State) : State := { s with inputs := { s.inputs with jam := true } }

/-- A part with PRINTER-WAIT standing. -/
def waiting (s : State) : State :=
  { s with holds := { s.holds with causes := { printerWait := true, pocketWait := false } } }

/-- A part with a content in its setup latch. -/
def latched (l : SetupLatch) (s : State) : State := { s with host := { s.host with latch := l } }

/-- The same part with its line in a state and nothing else changed. -/
def inState (l : LineState) (s : State) : State := { s with line := { s.line with state := l } }

theorem test_witness_StepTakesFrontCommand :
    ({ fitted with pending := [.holdTimeout, .holdExpired] } : State).pending
        = .holdTimeout :: [.holdExpired]
      ∧ (held.pending = [] ∧ held.inputs.reset = true)
      ∧ (fitted.pending = [] ∧ fitted.inputs.reset = false) := by decide

theorem test_witness_BusyAndMalformedCommandsAreTurnedAway :
    (TakesFrames (during .clearConfirm) ∧ (during .clearConfirm).host.operation ≠ none
        ∧ waitsForConfirm (.run (.fields ())) = true)
      ∧ (TakesFrames fitted ∧ fitted.host.operation = none
        ∧ isMalformed (.run .malformed) ∧ Instr.run .malformed ≠ .load .malformed
        ∧ Instr.run .malformed ≠ .status .malformed) := by unfold isMalformed TakesFrames; decide

theorem test_witness_AssertedResetInputTakesNoEvent :
    held.inputs.reset = true ∧ (∀ i, Instr.holdTimeout ≠ .encoderForwardCount i)
      ∧ (∀ f, Instr.holdTimeout ≠ .faultInputActive f)
      ∧ (∀ f, Instr.holdTimeout ≠ .faultInputInactive f) ∧ Instr.holdTimeout ≠ .pinResetRelease := by
  refine ⟨rfl, ?_, ?_, ?_, ?_⟩ <;> simp

/-- A part some µs before RDY rises after a pin reset, and one whose next transaction began before. -/
def rising (span : Startup) : State := { fitted with startup := span }

theorem test_witness_PinResetRestoresResetValues :
    held.inputs.reset = true ∧ fitted.inputs.reset = false
      ∧ ((rising ⟨some 700, true⟩).inputs.reset = false
        ∧ (rising ⟨some 700, true⟩).startup.rdyIn = some 700 ∧ 700 ≤ 1000
        ∧ waitsForConfirm (.run (.fields ())) = true)
      ∧ ((rising ⟨none, true⟩).inputs.reset = false ∧ (rising ⟨none, true⟩).startup.rdyIn = none
        ∧ (rising ⟨none, true⟩).startup.straddles = true)
      ∧ (fitted.startup.rdyIn = none ∧ fitted.host.operation = none) := by decide

/-- Until RDY rises RUN is discarded, and so is the frame whose transaction began before the rise. -/
theorem test_rising :
    (after (.run (.fields ())) (rising ⟨some 700, true⟩)).host.slot = .empty
      ∧ (after (.run (.fields ())) (rising ⟨none, true⟩)).startup = Startup.over := by decide

theorem test_witness_ResponseReadsAndRefusedFrames :
    ((after (.identify (.fields ())) fitted).inputs.reset = false
        ∧ (after (.identify (.fields ())) fitted).host.slot = .formed .ok [0x46, 0x0A, 1])
      ∧ (TakesFrames fitted ∧ fitted.host.slot = .empty)
      ∧ ((during .clearConfirm).inputs.reset = false ∧ (during .clearConfirm).host.slot = .pending) := by
  unfold TakesFrames; decide

theorem test_witness_StatusReportsWithoutChange :
    TakesFrames fitted ∧ fitted.geometry.offsets.length = 6 := by unfold TakesFrames; decide

theorem test_witness_IdentifyAndAttentionFollowTheirRules :
    Listening fitted ∧ ((0x3F#8).getLsbD 6 = false ∧ (0x3F#8).getLsbD 7 = false)
      ∧ (0x40#8).getLsbD 6 = true ∧ (0x80#8).getLsbD 7 = true := by unfold Listening TakesFrames; decide

/-- The checks of SNAPSHOT, as the statement has them. -/
abbrev snapshotFits (f : SnapshotFields) (s : State) : Prop :=
  f.line ≤ 1 ∧ (f.line = 1 ∨ (List.range 64).filter (fun n => f.positions.getLsbD n) ≠ []
      ∨ (List.range 24).filter (fun u => f.units.getLsbD u) ≠ [])
    ∧ (∀ n ∈ (List.range 64).filter (fun n => f.positions.getLsbD n),
        s.geometry.isSet = true ∧ n ≤ s.geometry.s)
    ∧ ∀ u ∈ (List.range 24).filter (fun u => f.units.getLsbD u), u ≤ 18

/-- Position 17 is S and U18 the last unit; position 18, U19 and an empty request are refused. -/
theorem test_witness_SnapshotLatchesNamedItems :
    Listening fitted ∧ snapshotFits ⟨0, 131072, 262144⟩ fitted ∧ ¬ snapshotFits ⟨0, 262144, 0⟩ fitted
      ∧ ¬ snapshotFits ⟨1, 0, 524288⟩ fitted ∧ ¬ snapshotFits ⟨0, 0, 0⟩ fitted
      ∧ ¬ snapshotFits ⟨2, 1, 0⟩ fitted := by
  unfold Listening TakesFrames; decide +kernel

/-- All units latched do not fit one response. -/
theorem test_witness_ReadSnapshotReturnsAndUnlatches :
    Listening (after (.snapshot (.fields ⟨1, 0, 524287⟩)) fitted)
      ∧ latchedBytes (after (.readSnapshot (.fields ()))
          (after (.snapshot (.fields ⟨1, 0, 524287⟩)) fitted)).host ≠ [] := by
  unfold Listening TakesFrames; decide +kernel

theorem test_witness_FramesDecodeToTheirCommand :
    ((Instr.run (.fields ())).wf = true ∧ encodeFrame (.run (.fields ())) = some [0x22, 0])
      ∧ ((Instr.responseRead 0).wf = true ∧ encodeFrame (.responseRead 0) = some [0xF0])
      ∧ ((Instr.amend (.fields ⟨7, some [0x41], none⟩)).wf = true
        ∧ encodeFrame (.amend (.fields ⟨7, some [0x41], none⟩))
          = some [0x32, 8, 7, 0, 0, 0, 1, 0, 1, 0x41]) := by decide

/-- A geometry at the ends of its ranges. -/
def line63 : GeometryFields :=
  { line17 with c := 2000, fitted := 1, offsets := [1, 0, 0, 0, 0, 0], cOff := 2, s := 63 }

theorem test_witness_SetGeometryReplacesMap :
    Listening fitted ∧ (lineAt .stopped 0 0).line.state ≠ .idle ∧ fitted.line.state = .idle
      ∧ GeometryFits line63 fitted.store ∧ ¬ GeometryFits { line63 with c := 2001 } fitted.store
      ∧ ¬ GeometryFits { line63 with c := 99 } fitted.store
      ∧ ¬ GeometryFits { line63 with s := 64 } fitted.store := by
  refine ⟨⟨⟨rfl, rfl⟩, rfl⟩, by decide, by decide, ?_, ?_, ?_, ?_⟩
  · refine ⟨by decide, by decide, by decide, ?_, by decide⟩
    intro i j hij hj _ hf
    have only : ∀ k, k < 6 → (1#6).getLsbD k = true → k = 0 := by decide
    have := only j hj hf
    omega
  · intro h; exact absurd h.1 (by decide)
  · intro h; exact absurd h.1 (by decide)
  · intro h; exact absurd h.2.2.2.2.2.2.2.2.2.2.1 (by decide)

theorem test_witness_SetProductReplacesSettings :
    Listening fitted ∧ Listening (lineAt .running 0 0) ∧ (lineAt .running 0 0).line.state ≠ .idle
      ∧ fitted.line.state = .idle ∧ ProductFits ⟨1, 1, 0, 0, 100, 200, 10⟩
      ∧ ProductFits ⟨2000, 300, 50, 20, 600, 800, 60⟩ ∧ ¬ ProductFits ⟨0, 1, 0, 0, 100, 200, 10⟩
      ∧ ¬ ProductFits ⟨1, 1, 0, 0, 100, 200, 61⟩ := by
  unfold Listening TakesFrames ProductFits
  exact ⟨by decide, by decide, by decide, by decide, by decide, by decide, by decide, by decide⟩

theorem test_witness_SetInsertReplacesSettings :
    Listening fitted ∧ (lineAt .running 0 0).line.state ≠ .idle ∧ fitted.line.state = .idle
      ∧ ((1 ≤ 6 ∧ 6 ≤ 6) ∧ 500 ≤ 500 ∧ 100 ≤ 100)
      ∧ ¬ ((1 ≤ 7 ∧ 7 ≤ 6) ∧ 500 ≤ 500 ∧ 100 ≤ 100)
      ∧ ¬ ((1 ≤ 1 ∧ 1 ≤ 6) ∧ 501 ≤ 500 ∧ 100 ≤ 100) := by unfold Listening TakesFrames; decide

theorem test_witness_SetBundleLimitsConvertsLimits :
    Listening fitted ∧ fitted.line.state = .idle ∧ Listening (lineAt .stopped 0 0)
      ∧ (lineAt .stopped 0 0).line.state = .stopped ∧ Listening (lineAt .holding 0 0)
      ∧ (lineAt .holding 0 0).line.state ≠ .idle ∧ (lineAt .holding 0 0).line.state ≠ .stopped
      ∧ 3 < fitted.planner.plans.length := by unfold Listening TakesFrames; decide

/-- The three commands of the last clauses of SetProduct, SetInsert and SetBundleLimits answer. -/
theorem test_witness_settings_kept :
    exec (.reset (.fields ())) fitted = .next (after (.reset (.fields ())) fitted)
      ∧ exec .clearConfirmCompletion (during .clearConfirm)
        = .next (after .clearConfirmCompletion (during .clearConfirm))
      ∧ exec .jobConfirmCompletion (during (.jobConfirm 32 8))
        = .next (after .jobConfirmCompletion (during (.jobConfirm 32 8))) := ⟨rfl, rfl, rfl⟩

theorem test_witness_SetRemakeConvertsSettings : Listening (lineAt .running 0 0) :=
  ⟨⟨rfl, rfl⟩, rfl⟩

theorem test_witness_SetPrinterConvertsSettings :
    Listening (lineAt .running 0 0) ∧ (PrinterFields.mk 9 8 2 1 2 3).lmax < (PrinterFields.mk 9 8 2 1 2 3).lmin
      ∧ (PrinterFields.mk 8 8 2 1 2 3).lmin ≤ (PrinterFields.mk 8 8 2 1 2 3).lmax := by
  unfold Listening TakesFrames; decide

/-- On and off phases of 399 and 400 are both used as 399 where C = 400; U0 is a PULSE unit and U1 a
WINDOW unit. -/
theorem test_witness_SetUnitWritesOrPends :
    Listening fitted ∧ 0 < fitted.geometry.c ∧ 18 < 19 ∧ (18 ≤ 18 ∧ 10 ≠ 90)
      ∧ (Listening (lineAt .holding 0 0) ∧ (lineAt .holding 0 0).line.state ≠ .idle
        ∧ (lineAt .holding 0 0).line.state ≠ .stopped)
      ∧ fitted.line.state = .idle ∧ (lineAt .stopped 0 0).line.state = .stopped
      ∧ (isPulse 0 = true ∧ (unitAt fitted 0).ordered = false)
      ∧ (isPulse 1 = false
        ∧ (unitAt (updateUnit 1 (fun u => { u with opened := true }) fitted) 1).opened = true) := by
  unfold Listening TakesFrames; decide

theorem test_witness_SetHoldReplacesLimits :
    (Listening fitted ∧ fitted.line.state ≠ .holding ∧ anyEjecting fitted = false)
      ∧ (let s : State :=
          { lineAt .holding 0 0 with line := { (lineAt .holding 0 0).line with holdTimer := ⟨500, 0⟩ } };
        Listening s ∧ s.line.state = .holding ∧ anyEjecting s = false ∧ min 60000 500 ≠ 0
          ∧ min 60000 500 ≤ s.line.holdTimer.ms) := by
  exact ⟨⟨⟨⟨rfl, rfl⟩, rfl⟩, by decide, by decide⟩, ⟨⟨rfl, rfl⟩, rfl⟩, by decide, by decide, by decide,
    by decide⟩

theorem test_witness_JobSetupFillsLatch :
    (Listening (lineAt .stopped 0 0) ∧ (lineAt .stopped 0 0).line.state ≠ .idle)
      ∧ (Listening State.reset ∧ State.reset.geometry.isSet = false)
      ∧ (Listening fitted ∧ fitted.line.state = .idle ∧ fitted.geometry.isSet = true)
      ∧ ((during (.jobConfirm 511 32)).inputs.reset = false
        ∧ (during (.jobConfirm 511 32)).host.operation = some (.jobConfirm 511 32)) := by
  unfold Listening TakesFrames; decide

theorem test_witness_ConfirmsBeginOnTheirSetup :
    (Listening (latched (.job 32 8) fitted) ∧ (latched (.job 32 8) fitted).host.latch = .job 32 8)
      ∧ (Listening fitted ∧ fitted.host.latch = .empty)
      ∧ (Listening (latched .clear fitted) ∧ (latched .clear fitted).host.latch = .clear
        ∧ Clearable (latched .clear fitted))
      ∧ (Listening (latched .clear (lineAt .running 0 0))
        ∧ ¬ Clearable (latched .clear (lineAt .running 0 0))) := by
  unfold Listening TakesFrames Clearable; decide

theorem test_witness_JobConfirmCompletionBeginsJob :
    ((during (.jobConfirm 32 5)).inputs.reset = false
        ∧ (during (.jobConfirm 32 5)).host.operation = some (.jobConfirm 32 5)
        ∧ (during (.jobConfirm 32 5)).line.state = .idle ∧ NonePending (during (.jobConfirm 32 5)))
      ∧ (fitted.inputs.reset = false
        ∧ ∀ low start, fitted.host.operation ≠ some (.jobConfirm low start)) := by
  unfold NonePending
  exact ⟨by decide, rfl, fun _ _ => nofun⟩

theorem test_witness_ClearConfirmCompletionClears :
    (let s := during .clearConfirm;
      s.inputs.reset = false ∧ s.host.operation = some .clearConfirm ∧ s.line.state = .idle
        ∧ NonePending s)
      ∧ ((inState .faulted (during .clearConfirm)).host.operation = some .clearConfirm
        ∧ (inState .faulted (during .clearConfirm)).line.state = .faulted
        ∧ NonePending (inState .faulted (during .clearConfirm)))
      ∧ ((inState .stopped (during .clearConfirm)).line.state = .stopped
        ∧ NonePending (inState .stopped (during .clearConfirm)))
      ∧ (fitted.inputs.reset = false ∧ fitted.host.operation ≠ some .clearConfirm) := by
  unfold NonePending
  exact ⟨⟨rfl, rfl, rfl, by decide⟩, by decide, by decide, by decide⟩

theorem test_witness_ClearSetupChecksConditions :
    (Listening fitted ∧ Clearable fitted)
      ∧ (Listening (drainAtRest fitted) ∧ Clearable (drainAtRest fitted))
      ∧ (Listening (lineAt .running 0 0) ∧ ¬ Clearable (lineAt .running 0 0)) := by
  unfold Listening TakesFrames Clearable; decide

theorem test_witness_RunByLineState :
    (Listening fitted ∧ LineSafe fitted.line ∧ fitted.line.state = .idle)
      ∧ (let s := jammed faulted;
        Listening s ∧ LineSafe s.line ∧ s.line.state = .faulted ∧ anyFaultInput s = true)
      ∧ (let s := waiting faulted;
        Listening s ∧ LineSafe s.line ∧ s.line.state = .faulted ∧ anyFaultInput s = false
          ∧ s.holds.causes ≠ HoldSet.none)
      ∧ (let s := lineAt .stopped 0 0;
        Listening s ∧ LineSafe s.line ∧ s.line.state = .stopped ∧ anyFaultInput s = false
          ∧ s.holds.causes = HoldSet.none ∧ s.line.drain = false)
      ∧ (let s := drainAtRest (tracked 8 .forming none);
        Listening s ∧ LineSafe s.line ∧ s.line.state = .stopped ∧ anyFaultInput s = false
          ∧ s.holds.causes = HoldSet.none ∧ s.line.drain = true ∧ ¬ Drained s)
      ∧ (let s := drainAtRest fitted;
        Listening s ∧ LineSafe s.line ∧ s.line.state = .stopped ∧ anyFaultInput s = false
          ∧ s.holds.causes = HoldSet.none ∧ s.line.drain = true ∧ Drained s)
      ∧ (Listening draining ∧ LineSafe draining.line ∧ draining.line.state = .draining)
      ∧ (let s := waiting (lineAt .holding 0 0);
        Listening s ∧ LineSafe s.line ∧ s.line.state = .holding) := by
  unfold Listening TakesFrames LineSafe
  refine ⟨by decide, by decide, by decide, by decide, ?_, ?_, by decide, by decide⟩
  · refine ⟨by decide, by decide, by decide, by decide, by decide, by decide, fun h => ?_⟩
    exact absurd h.1 (by decide)
  · refine ⟨by decide, by decide, by decide, by decide, by decide, by decide, rfl, nofun, nofun⟩

theorem test_witness_PauseByLineState :
    (Listening (lineAt .running 0 0) ∧ LineSafe (lineAt .running 0 0).line
        ∧ (lineAt .running 0 0).line.state = .running)
      ∧ (Listening (lineAt .holding 0 0) ∧ LineSafe (lineAt .holding 0 0).line
        ∧ (lineAt .holding 0 0).line.state = .holding ∧ NonePending (lineAt .holding 0 0))
      ∧ (Listening (lineAt .stopped 0 0) ∧ LineSafe (lineAt .stopped 0 0).line
        ∧ (lineAt .stopped 0 0).line.state = .stopped)
      ∧ (Listening faulted ∧ LineSafe faulted.line ∧ faulted.line.state = .faulted) := by
  unfold Listening TakesFrames LineSafe NonePending
  exact ⟨by decide, by decide, by decide, by decide⟩

theorem test_witness_DrainByLineState :
    (Listening fitted ∧ LineSafe fitted.line ∧ fitted.line.state = .idle)
      ∧ (let s := jammed (lineAt .stopped 0 0);
        Listening s ∧ LineSafe s.line ∧ s.line.state = .stopped ∧ anyFaultInput s = true)
      ∧ (let s := tracked 8 .forming none;
        Listening s ∧ LineSafe s.line ∧ s.line.state = .running ∧ ¬ Drained s)
      ∧ (let s := bundled .filling (some .a);
        Listening s ∧ LineSafe s.line ∧ s.line.state = .running ∧ Drained s ∧ BundleSafe s)
      ∧ (let s := lineAt .stopped 0 0;
        Listening s ∧ LineSafe s.line ∧ s.line.state = .stopped ∧ anyFaultInput s = false)
      ∧ (Listening faulted ∧ LineSafe faulted.line ∧ faulted.line.state = .faulted)
      ∧ (Listening draining ∧ LineSafe draining.line ∧ draining.line.state = .draining) := by
  unfold Listening TakesFrames LineSafe BundleSafe
  refine ⟨by decide, by decide, ?_, ?_, by decide, by decide, by decide⟩
  · exact ⟨by decide, by decide, by decide, fun h => absurd h.1 (by decide)⟩
  · exact ⟨by decide, by decide, by decide, ⟨rfl, nofun, by decide⟩, by decide⟩

theorem test_witness_ResetCommandResetsPart :
    TakesFrames (during .clearConfirm) ∧ TakesFrames fitted := by unfold TakesFrames; decide

theorem test_witness_ResetDuringConfirmEqualsResetBefore :
    Listening (latched .clear fitted)
      ∧ exec (.clearConfirm (.fields ())) (latched .clear fitted)
        = .next (after (.clearConfirm (.fields ())) (latched .clear fitted)) := ⟨⟨⟨rfl, rfl⟩, rfl⟩, rfl⟩

theorem test_witness_LoadAcceptsUpToFirstRefusal :
    Listening fitted ∧ ([] : List LoadRecord).length < 1
      ∧ 8 < (List.replicate 9 (loadRecord 1 1 1 false)).length
      ∧ (Listening State.reset ∧ State.reset.geometry.isSet = false)
      ∧ (1 ≤ [loadRecord 1 1 1 false].length ∧ [loadRecord 1 1 1 false].length ≤ 8
        ∧ fitted.geometry.isSet = true)
      ∧ (loadCause (loadRecord 1 1 1 false) fitted = none
        ∧ loadCause (loadRecord 0 1 1 false) fitted = some .range) := by
  unfold Listening TakesFrames; decide

/-- The form of a record in LoadAcceptsUpToFirstRefusal, as the statement has it. -/
abbrev formedRecord (r : LoadRecord) (s : State) : Prop :=
  r.key ≠ 0 ∧ r.route ≤ 999999
    ∧ ((splitLines r.text).length ≤ 6 ∧ (∀ l ∈ splitLines r.text, l.length ≤ 40)
        ∧ ∀ c ∈ r.text, 0x20 ≤ c.toNat)
    ∧ ∀ i, i < 6 → r.version.getLsbD i = true → s.geometry.fitted.getLsbD i = true

theorem test_witness_LoadAcceptsUpToFirstRefusal_checks :
    ¬ formedRecord (loadRecord 8 1000000 5 false) fitted
      ∧ (formedRecord (loadRecord 7 999999 5 false) queued7
        ∧ ∃ a ∈ queued7.store, a.key = (loadRecord 7 999999 5 false).key)
      ∧ (let s : State := { queued7 with queue := { queued7.queue with lastEnded := some 4 } };
        formedRecord (loadRecord 8 4 5 false) s
          ∧ (¬ ∃ a ∈ s.store, a.key = (loadRecord 8 4 5 false).key)
          ∧ ¬ (s.queue.lastEnded ≠ some (loadRecord 8 4 5 false).route))
      ∧ (let s : State := { fitted with store := List.replicate 512 (record 7) };
        formedRecord (loadRecord 8 4 5 false) s
          ∧ (¬ ∃ a ∈ s.store, a.key = (loadRecord 8 4 5 false).key)
          ∧ (s.queue.lastKey = none ∧ s.queue.lastEnded = none) ∧ 512 ≤ s.store.length)
      ∧ (formedRecord (loadRecord 8 4 5 false) queued7
        ∧ (¬ ∃ a ∈ queued7.store, a.key = (loadRecord 8 4 5 false).key)
        ∧ (queued7.queue.lastKey = none ∧ queued7.queue.lastEnded = none)
        ∧ queued7.store.length < 512) := by
  refine ⟨by decide, by decide, by decide, ⟨by decide, ?_, by decide, ?_⟩, by decide⟩
  · intro ⟨a, ha, hk⟩
    rw [List.eq_of_mem_replicate ha] at hk
    exact absurd hk (by decide)
  · exact Nat.le_of_eq (List.length_replicate (n := 512) (a := record 7)).symm

theorem test_witness_FindReportsRecord :
    Listening queued7 ∧ findRecord queued7 8 = none ∧ findRecord queued7 7 = some (record 7)
      ∧ ((record 7).state = .queued ∧ queued7.queue.order.Nodup
        ∧ queued7.queue.order[0]? = some (record 7).key) := by unfold Listening TakesFrames; decide

/-- A part with a QUEUED record of key 7 changed by `f`. -/
def queuedAs (f : Record → Record) : State := { queued7 with store := [f (record 7)] }

theorem test_witness_AmendReplacesTextAndVersion :
    Listening queued7 ∧ findRecord queued7 8 = none
      ∧ (findRecord (tracked 8 .forming none) 2).map (fun r => r.state) = some .inFlight
      ∧ (findRecord (queuedAs (fun r => { r with amendCount := 4 })) 7).map (fun r => r.amendCount)
        = some 4
      ∧ (findRecord (queuedAs (fun r => { r with amendCount := 3 })) 7).map (fun r => r.amendCount)
        = some 3
      ∧ (versionFitted queued7.geometry 8 = false ∧ versionFitted queued7.geometry 7 = true
        ∧ textInForm [0x7F, 0x7F, 0x7F, 0x7F, 0x7F, 0x7F] = false
        ∧ textInForm [0x7F, 0x7F, 0x7F, 0x7F, 0x7F] = true)
      ∧ (findRecord (queuedAs (fun r => { r with planRef := some ⟨0, 0⟩ })) 7).map
          (fun r => (r.state, r.planRef)) = some (.queued, some ⟨0, 0⟩) := by
  unfold Listening TakesFrames; decide

theorem test_witness_WithdrawByRecordState :
    (Listening queued7 ∧ findRecord queued7 8 = none ∧ findRecord queued7 7 = some (record 7)
        ∧ (record 7).state = .queued ∧ (record 7).planRef = none ∧ queued7.line.state ≠ .holding
        ∧ queued7.line.state ≠ .draining)
      ∧ (let s := tracked 8 .forming none;
        Listening s ∧ (findRecord s 2).map (fun r => (r.state, r.withdrawPending))
            = some (.inFlight, false)
          ∧ (pieceOf s 2).map (fun p => p.stage) = some .carried)
      ∧ (let s := updatePiece 5 (fun p => { p with stage := .passing }) (tracked 16 .forming none);
        Listening s ∧ (findRecord s 2).map (fun r => r.state) = some .inFlight
          ∧ (pieceOf s 2).map (fun p => p.stage) = some .passing)
      ∧ (Listening (bundled .filling (some .a))
        ∧ (findRecord (bundled .filling (some .a)) 3).map (fun r => r.state) = some .stacked)
      ∧ (Listening excepted ∧ (findRecord excepted 9).map (fun r => r.state) = some .exception) := by
  unfold Listening TakesFrames; decide

/-- A part whose plan 0 has one ordinal, with a bundle of number 1 in a state. -/
def departing (o : Machine.Ordinal) (b : Bundle) : State :=
  { queuedAs (fun r => { r with planRef := some ⟨0, 0⟩ }) with
    planner :=
      { fitted.planner with
        plans :=
          [some
            { route := 300, kind := .complete, nmax := 50, mmax := 10000, sizes := [o],
              closedToGrowth := false }, none, none, none] }
    stacker := { fitted.stacker with bundles := [b] } }

/-- An ordinal with a planned count and a status. -/
def ordinal (count : Nat) (status : OrdinalStatus) : Machine.Ordinal :=
  { count := count, mass := 240, final := true, overmass := false, status := status }

/-- What the second part of the withdrawal statement asks of a state and its record 7. -/
abbrev hasOrdinal (s : State) (o : Machine.Ordinal) : Prop :=
  (findRecord s 7).bind (fun r => r.planRef) = some ⟨0, 0⟩
    ∧ (planAt s 0).bind (fun p => p.sizes[0]?) = some o

/-- A FORMING bundle of one planned record and no member. -/
def forming1 : Bundle :=
  { bundle1 .forming none with plannedCount := 1, stackedCount := 0, stackedMass := 0, members := [] }

theorem test_witness_WithdrawByRecordState_departures :
    (hasOrdinal (departing (ordinal 2 .waiting) (bundle1 .forming none)) (ordinal 2 .waiting) ∧ 1 < 2)
      ∧ hasOrdinal (departing (ordinal 1 .waiting) (bundle1 .forming none)) (ordinal 1 .waiting)
      ∧ hasOrdinal (departing (ordinal 0 .skipped) (bundle1 .forming none)) (ordinal 0 .skipped)
      ∧ (let s := departing (ordinal 3 (.allocated 1)) (bundle1 .ejecting (some .a));
        hasOrdinal s (ordinal 3 (.allocated 1))
          ∧ findBundle s 1 = some (bundle1 .ejecting (some .a)))
      ∧ (let s := departing (ordinal 3 (.allocated 1)) (bundle1 .filling (some .a));
        hasOrdinal s (ordinal 3 (.allocated 1))
          ∧ findBundle s 1 = some (bundle1 .filling (some .a))
          ∧ max (bundle1 .filling (some .a)).stackedCount
            ((bundle1 .filling (some .a)).plannedCount - 1) ≠ 0)
      ∧ (let s := departing (ordinal 1 (.allocated 1)) forming1;
        hasOrdinal s (ordinal 1 (.allocated 1)) ∧ findBundle s 1 = some forming1
          ∧ max forming1.stackedCount (forming1.plannedCount - 1) = 0
          ∧ forming1.pocket = none) := by decide

/-- Withdrawing the only record of a FORMING bundle empties it, and its plan retires. -/
theorem test_withdraw_empties :
    let t := after (.withdraw (.fields 7)) (departing (ordinal 1 (.allocated 1)) forming1)
    t.stacker.bundles = [] ∧ t.planner.plans = [none, none, none, none]
      ∧ t.stacker.lastFreed = some ⟨1, 300, .emptied⟩ := by decide

theorem test_witness_ReadBundleReturnsPage :
    (Listening fitted ∧ fitted.stacker.closedOrder = [] ∧ findBundle fitted 5 = none)
      ∧ (let s := bundled .filling (some .a);
        Listening s ∧ findBundle s 1 = some (bundle1 .filling (some .a))
          ∧ (bundle1 .filling (some .a)).stackedCount < 3
          ∧ 2 ≤ (bundle1 .filling (some .a)).stackedCount)
      ∧ (let s := after (.clearEdge .a) (bundled .ejecting (some .a));
        Listening s ∧ s.stacker.closedOrder = 1 :: [] ∧ (findBundle s 1).isSome = true) := by
  unfold Listening TakesFrames; decide

theorem test_witness_ReleaseBundleFreesMembers :
    (Listening fitted ∧ findBundle fitted 1 = none)
      ∧ (Listening (bundled .ejecting (some .a))
        ∧ findBundle (bundled .ejecting (some .a)) 1 = some (bundle1 .ejecting (some .a))
        ∧ (bundle1 .ejecting (some .a)).state ≠ .closed)
      ∧ (Listening (bundled .closed none)
        ∧ findBundle (bundled .closed none) 1 = some (bundle1 .closed none)
        ∧ (bundle1 .closed none).state = .closed) := by unfold Listening TakesFrames; decide

/-- The three clauses of the retirement test: every ordinal ends, one does not, and no plan. -/
theorem test_witness_ReleaseBundleFreesMembers_retirement :
    (let s := departing (ordinal 1 (.allocated 1)) (bundle1 .closed none);
      ∃ p, planAt s 0 = some p ∧ ∀ o ∈ p.sizes, OrdinalEnds s o)
      ∧ (let s := departing (ordinal 1 (.allocated 1)) (bundle1 .ejecting (some .a));
        ∃ p, planAt s 0 = some p ∧ ∃ o ∈ p.sizes, ¬ OrdinalEnds s o)
      ∧ planAt fitted 0 = none := by
  refine ⟨⟨_, rfl, ?_⟩, ⟨_, rfl, _, List.mem_singleton.mpr rfl, ?_⟩, rfl⟩
  · intro o ho
    rw [List.mem_singleton.mp ho]
    exact ⟨rfl, .inr (.inr (.inr ⟨1, bundle1 .closed none, rfl, rfl, rfl⟩))⟩
  · rintro ⟨-, h | h | h | ⟨n, b, hn, hb, hc⟩⟩
    · cases h
    · cases h
    · cases h
    · obtain rfl : 1 = n := by injection hn
      rw [← Option.some.inj hb] at hc
      exact absurd hc (by decide)

theorem test_witness_ExceptionsAreReadAndReleased :
    Listening excepted ∧ 0 < 1 ∧ 128 < 129 ∧ (1 ≤ 1 ∧ 1 ≤ 128) ∧ (1 ≤ 128 ∧ 128 ≤ 128) := by
  unfold Listening TakesFrames; decide

/-- The state before a count that comes with no time. -/
def beforeCount (s : State) : State := passTime 0 { s with inputs := { s.inputs with gauge := 0 } }

theorem test_witness_ForwardCountMovesPhaseAndPitch :
    (let s := after (.encoderReverseCount 0) (lineAt .stopped 0 395);
      s.inputs.reset = false ∧ 0 < (beforeCount s).line.backlash)
      ∧ ((lineAt .running 0 398).inputs.reset = false
        ∧ (beforeCount (lineAt .running 0 398)).line.backlash = 0
        ∧ (beforeCount (lineAt .running 0 398)).line.inPitch + 1
          < (beforeCount (lineAt .running 0 398)).geometry.c)
      ∧ ((lineAt .running 0 399).inputs.reset = false
        ∧ (beforeCount (lineAt .running 0 399)).line.backlash = 0
        ∧ (beforeCount (lineAt .running 0 399)).geometry.c
          ≤ (beforeCount (lineAt .running 0 399)).line.inPitch + 1) := by
  decide +kernel

/-- The hypotheses of PitchMarkChangesLineState but for the line state. -/
abbrev atMark (s : State) : Prop :=
  s.inputs.reset = false ∧ (beforeCount s).line.backlash = 0
    ∧ (beforeCount s).geometry.c ≤ (beforeCount s).line.inPitch + 1

theorem test_witness_PitchMarkChangesLineState :
    (∀ s, exec (.encoderForwardCount ⟨0, 0, []⟩) s
        = .next (after (.encoderForwardCount ⟨0, 0, []⟩) s))
      ∧ (let s := after (.pause (.fields ())) (lineAt .running 0 399);
        atMark s ∧ (beforeCount s).line.state = .running ∧ (beforeCount s).line.pause = true)
      ∧ (atMark (lineAt .running 0 399) ∧ (beforeCount (lineAt .running 0 399)).line.pause = false)
      ∧ (atMark (lineAt .draining 0 399)
        ∧ (beforeCount (lineAt .draining 0 399)).line.state = .draining)
      ∧ (atMark (lineAt .stopped 0 399)
        ∧ (beforeCount (lineAt .stopped 0 399)).line.state = .stopped)
      ∧ (atMark (lineAt .faulted 0 399)
        ∧ (beforeCount (lineAt .faulted 0 399)).line.state = .faulted)
      ∧ (atMark (lineAt .idle 0 399) ∧ (beforeCount (lineAt .idle 0 399)).line.state = .idle) := by
  refine ⟨fun _ => rfl, ?_⟩
  decide +kernel

/-- A mark, a count within the pitch, and the drain test of a DRAINING line with and without a piece. -/
theorem test_witness_PitchMarkChangesLineState_events :
    (atMark (lineAt .running 0 399) ∧ ([] : List MarkEvent).Nodup
        ∧ [MarkEvent.stackerArrival, .birthDecision].Nodup)
      ∧ ((lineAt .running 0 398).inputs.reset = false
        ∧ (beforeCount (lineAt .running 0 398)).line.backlash = 0
        ∧ (beforeCount (lineAt .running 0 398)).line.inPitch + 1
          < (beforeCount (lineAt .running 0 398)).geometry.c)
      ∧ (Drained draining ∧ draining.line.state = .draining)
      ∧ ¬ Drained (tracked 8 .forming none) ∧ isPulse 1 = false := by
  refine ⟨by decide +kernel, by decide +kernel, ⟨⟨rfl, nofun, nofun⟩, rfl⟩, fun h => ?_, rfl⟩
  exact absurd h.1 (by decide)

theorem test_witness_ReverseCountOwesBacklash :
    (fitted.inputs.reset = false ∧ (passTime 0 fitted).line.backlash ≠ (passTime 0 fitted).geometry.c)
      ∧ (let s : State := { fitted with line := { fitted.line with backlash := 400 } };
        s.inputs.reset = false ∧ (passTime 0 s).line.backlash = (passTime 0 s).geometry.c
          ∧ 0 < (beforeCount s).line.backlash) := by
  decide +kernel

theorem test_witness_FaultInputByLineState :
    ((jammed fitted).inputs.reset = false ∧ (jammed fitted).inputs.level .jam = true)
      ∧ (fitted.inputs.reset = false ∧ fitted.inputs.level .jam = false ∧ fitted.line.state = .idle)
      ∧ (lineAt .stopped 0 0).line.state = .stopped ∧ (lineAt .holding 0 0).line.state = .holding
      ∧ ((tracked 9 .forming none).inputs.reset = false
        ∧ (tracked 9 .forming none).inputs.level .guard = false
        ∧ (tracked 9 .forming none).line.state = .running)
      ∧ (faulted.inputs.reset = false ∧ faulted.inputs.level .filmbrk = false
        ∧ faulted.line.state = .faulted) := by decide

theorem test_witness_ClearEdgeCompletesEjection :
    (fitted.inputs.reset = false ∧ bundleIn fitted .a = none)
      ∧ (let s := bundled .ejecting (some .a);
        s.inputs.reset = false ∧ bundleIn s .a = some (bundle1 .ejecting (some .a))
          ∧ (bundle1 .ejecting (some .a)).state = .ejecting ∧ BundleSafe s
          ∧ s.line.state ≠ .holding ∧ s.line.state ≠ .draining
          ∧ s.stacker.request ≠ some (bundle1 .ejecting (some .a)).number
          ∧ 3 ∈ (bundle1 .ejecting (some .a)).members ∧ (findRecord s 3).isSome = true)
      ∧ (2 ∉ (bundle1 .ejecting (some .a)).members
        ∧ (findRecord (tracked 8 .ejecting (some .a)) 2).isSome = true) := by
  unfold BundleSafe; decide

theorem test_witness_TimeLimitsRaiseTheirFaults :
    (fitted.inputs.reset = false ∧ pocketState fitted .a ≠ .ejecting)
      ∧ (let s := bundled .ejecting (some .a);
        s.inputs.reset = false ∧ pocketState s .a = .ejecting ∧ (ejectTimer s .a).jammed = false
          ∧ s.line.state ≠ .faulted ∧ s.line.state ≠ .idle)
      ∧ (let s := after (.pocketJam .a) (bundled .ejecting (some .a));
        s.inputs.reset = false ∧ (ejectTimer s .a).jammed = true ∧ s.line.state = .faulted)
      ∧ ((lineAt .holding 0 0).inputs.reset = false ∧ (lineAt .holding 0 0).line.state = .holding
        ∧ (lineAt .holding 0 0).line.holdLimit ≠ 0) := by decide +kernel

theorem test_witness_HoldExpiryClosesHeldBundles :
    let s : State :=
      { bundled .held (some .a) with
        stacker :=
          { fitted.stacker with
            bundles :=
              [{ bundle1 .held (some .a) with holdStart := some (20#32 - 24#32) },
                { bundle1 .held (some .b) with number := 2, holdStart := some (20#32 - 23#32) }] } }
    s.inputs.reset = false ∧ BundleSafe s
      ∧ s.stacker.bundles.map (holdAge s) = [s.stacker.holdLimit, s.stacker.holdLimit - 1]
      ∧ s.stacker.bundles.map (holdAge s)
        = [max 1 s.stacker.markLimit, max 1 s.stacker.markLimit - 1]
      ∧ findBundle s 1 = s.stacker.bundles.head? ∧ forceChoice s = some 1
      ∧ (completionTest 1 s = s ∧ forceChoice fitted = none) := by
  unfold BundleSafe; decide

/-- A complete bundle in pocket A, and one that a piece has claimed in pocket B. -/
def complete1 (p : PocketId) (claimed : Bool) : Bundle :=
  { bundle1 .held (some p) with plannedCount := 2, claim := claimed }

/-- A part with bundles and a standing request. -/
def requesting (bs : List Bundle) (n : Option Nat) : State :=
  { lineAt .running 20 0 with
    stacker := { fitted.stacker with bundles := bs, request := n } }

theorem test_witness_HoldExpiryClosesHeldBundles_close :
    (let s := requesting [complete1 .a false] none;
      findBundle s 1 = some (complete1 .a false)
        ∧ (((complete1 .a false).state = .filling ∨ (complete1 .a false).state = .held)
          ∧ (complete1 .a false).final = true ∧ 1 ≤ (complete1 .a false).stackedCount
          ∧ (complete1 .a false).stackedCount = (complete1 .a false).plannedCount))
      ∧ (bundle1 .held (some .a)).stackedCount ≠ (bundle1 .held (some .a)).plannedCount
      ∧ (let s := requesting [bundle1 .held (some .a), { complete1 .b true with number := 2 }] (some 3);
        s.stacker.request ≠ none ∧ ¬ (pocketState s .a = .free ∨ pocketState s .b = .free)
          ∧ forceChoice s = some 1)
      ∧ (let s := requesting [bundle1 .held (some .a)] none;
        s.stacker.request = none ∧ pocketState s .b = .free)
      ∧ (let s := requesting [complete1 .a true] none;
        forceChoice s = none ∧ bundleIn s .a = some (complete1 .a true)
          ∧ (complete1 .a true).state = .held) := by decide

theorem test_witness_VerifyTimeoutMarksPieces :
    (tracked 10 .forming none).inputs.reset = false
      ∧ (tracked 10 .forming none).verify.expected.Nodup
      ∧ entriesDue (tracked 10 .forming none) = [5] ∧ entriesDue (tracked 9 .forming none) = [] := by
  decide

/-- A piece at V with its job in each state. -/
def atV (j : JobState) : State := updatePiece 5 (fun p => { p with job := j }) (tracked 7 .forming none)

theorem test_witness_VerifyTimeoutMarksPieces_arrival :
    pieceAt fitted fitted.geometry.v = none
      ∧ ∀ j ∈ [JobState.printed, .refused, .cancelled, .none, .due, .sent, .accepted],
        (pieceAt (atV j) (atV j).geometry.v).map (fun p => (p.number, p.job)) = some (5, j) := by decide

theorem test_witness_PrinterAnswersResolveJobs :
    (fitted.inputs.reset = false ∧ 5 ∉ fitted.carrier.jobs)
      ∧ ((tracked 4 .forming none).inputs.reset = false ∧ 5 ∈ (tracked 4 .forming none).carrier.jobs
        ∧ (pieceNumbered (tracked 4 .forming none) 5).map (fun p => p.job) = some .sent)
      ∧ (let s := after (.accept 5) (tracked 4 .forming none);
        5 ∈ s.carrier.jobs ∧ (pieceNumbered s 5).map (fun p => p.job) = some .accepted) := by
  decide +kernel

theorem test_witness_PrinterStateAndTransmission :
    (fitted.inputs.reset = false ∧ fitted.carrier.ready = false ∧ fitted.carrier.waiting = [] ∧ 1 < 2)
      ∧ ((after (.printerState 1) fitted).inputs.reset = false
        ∧ (after (.printerState 1) fitted).carrier.ready = true)
      ∧ (after (.reset (.fields ())) fitted).carrier.waiting = [.cancelAll] := by decide +kernel

/-- The same part with a job DUE and the printer READY. -/
def dueJob : State :=
  { tracked 4 .forming none with
    tracking := { fitted.tracking with pieces := [{ pieceOfKey 5 16 2 with job := .due }] }
    carrier := { fitted.carrier with ready := true } }

theorem test_witness_DispatchSendsDueJobsInBirthOrder :
    (dueJob.tracking.pieces.map (fun p => p.number)).Nodup ∧ dueJob.carrier.jobs.length ≤ 4
      ∧ (dispatch dueJob).carrier.jobs = [5] ∧ fitted.carrier.ready = false
      ∧ (fitted.tracking.pieces.map (fun p => p.number)).Nodup := by decide +kernel

/-- A part whose carrier unit transmits a JOB of piece 4 and has one of piece 5 waiting. -/
def sending : State :=
  { fitted with
    carrier :=
      { fitted.carrier with transmitting := some (.job 4 []), waiting := [.job 5 [], .cancel 3] } }

/-- Piece 5 one position before the carrier offset, where it makes its wait check, with its job. -/
def checking (j : JobState) : State :=
  updatePiece 5 (fun p => { p with job := j, lead := 0 }) (tracked 4 .forming none)

/-- The messages: a JOB of 5 waiting, and none of 4 (it is in transmission); jobs due at the mark at
position 5 less a lead of 2, and none; the wait check of each job; the window before its last count. -/
theorem test_witness_DispatchSendsDueJobsInBirthOrder_mark :
    (let jobOf (n : BitVec 16) (m : PrinterMessage) : Bool := match m with
        | .job k _ => k == n
        | .cancel _ | .cancelAll => false
      sending.carrier.waiting.any (jobOf 5) = true ∧ sending.carrier.waiting.any (jobOf 4) = false
        ∧ sending.carrier.transmitting = some (.job 4 []))
      ∧ (let s := updatePiece 5 (fun p => { p with job := .none, lead := 2 }) (tracked 3 .forming none);
        s.tracking.pieces.any (fun p => p.job = .none && position s p + p.lead == s.geometry.cOff)
          = true)
      ∧ (pieceAt (tracked 8 .forming none) 4 = none ∧ fitted.geometry.cOff - 1 = 4)
      ∧ (∀ j ∈ [JobState.none, .due, .sent, .accepted, .printed, .refused, .cancelled],
        (pieceAt (checking j) 4).map (fun p => p.job) = some j)
      ∧ (14 + 1 < 16 ∧ 16 ≤ 15 + 1) := by decide +kernel

/-- Two expected pieces: 5 of record 2 at V, and 6 of record 4 behind it. -/
def expecting : State :=
  { tracked 7 .forming none with
    tracking := { fitted.tracking with pieces := [pieceOfKey 5 13 2, pieceOfKey 6 14 4] }
    verify := { fitted.verify with expected := [5, 6] } }

/-- 15 corrected symbols are in form and 16 are not; 3 is the margin threshold; key 4 is that of the
next piece. -/
theorem test_witness_ReadsAreJudgedForTheOldestPiece :
    expecting.inputs.reset = false ∧ ¬ ((some 2 : Option Nat) ≠ some 0 ∧ 16 ≤ 15)
      ∧ ¬ ((some 0 : Option Nat) ≠ some 0 ∧ 0 ≤ 15) ∧ ((some 2 : Option Nat) ≠ some 0 ∧ 15 ≤ 15)
      ∧ fitted.verify.expected = []
      ∧ (expecting.verify.expected = 5 :: [6] ∧ 5 ∉ [(6 : BitVec 16)]
        ∧ (pieceNumbered expecting 5).map (fun p => p.key) = some 2)
      ∧ (3 ≤ expecting.carrier.marginThreshold ∧ expecting.carrier.marginThreshold < 4)
      ∧ ((slipPiece expecting 4).isSome = true ∧ slipPiece expecting 9 = none)
      ∧ (expecting.line.state ≠ .idle ∧ expecting.line.state ≠ .faulted)
      ∧ expecting.verify.reads < 31
      ∧ ({ expecting with verify := { expecting.verify with reads := 31 } } : State).verify.reads = 31 := by
  decide

/-- The slip of a read of the next piece's key and of the previous piece's, in a moving line, in FAULTED
and in IDLE; a read of the empty list, and one whose oldest piece is gone. -/
theorem test_witness_ReadsAreJudgedForTheOldestPiece_slip :
    (∀ l ∈ [LineState.running, .faulted, .idle],
      (inState l expecting).inputs.reset = false
        ∧ (inState l expecting).verify.expected = 5 :: [6]
        ∧ (slipPiece (inState l expecting) 4).map (fun p => p.number) = some 6)
      ∧ (let s : State :=
          { expecting with verify := { expecting.verify with expected := [5], previous := some 6 } };
        (slipPiece s 4).map (fun p => p.number) = some 6)
      ∧ (fitted.inputs.reset = false ∧ fitted.verify.expected = [])
      ∧ (let s : State := { expecting with verify := { expecting.verify with expected := [9] } };
        s.verify.expected = 9 :: [] ∧ pieceNumbered s 9 = none) := by decide

/-- A SLIP in FAULTED marks both pieces and joins the further causes. -/
theorem test_slip_faulted :
    let t := after (.read (some 4) 2) (inState .faulted expecting)
    t.tracking.pieces.map (fun p => p.defects)
        = [[⟨.keyMismatch, .verify⟩], [⟨.keyMismatch, .verify⟩]] ∧ t.line.further = 64 := by decide

/-- A part RUNNING at phase 9 of pitch 20, its period 200 ms: U14 with an order that begins at phase 10,
and U15 with a window that opens there. -/
def beforePhase : State :=
  let s := lineAt .running 20 9
  updateUnit 14 (fun u => { u with ordered := true, effOn := 10, effOff := 90 })
    (updateUnit 15 (fun u => { u with effOn := 10 })
      { s with line := { s.line with period := some 200000 } })

/-- The same part one count before the mark, with pending settings of U14. -/
def beforeMark : State :=
  updateUnit 14 (fun u => { u with pending := some ⟨true, 150, 230, 12000⟩ })
    { beforePhase with line := { beforePhase.line with inPitch := 399, sinceMark := some 200000 } }

theorem test_witness_UnitsActAtTheirPhases :
    (beforePhase.inputs.reset = false ∧ (beforeCount beforePhase).line.backlash = 0
        ∧ (beforeCount beforePhase).units.length = 19
        ∧ (beforeCount beforePhase).line.inPitch + 1 < (beforeCount beforePhase).geometry.c
        ∧ NonePending (beforeCount beforePhase))
      ∧ (isPulse 14 = true ∧ (unitAt (beforeCount beforePhase) 14).ordered = true
        ∧ (unitAt (beforeCount beforePhase) 14).effOn
          = (beforeCount beforePhase).line.inPitch + 1)
      ∧ (isPulse 15 = false ∧ (unitAt (beforeCount beforePhase) 15).opened = false
        ∧ (unitAt (beforeCount beforePhase) 15).effOn
          = (beforeCount beforePhase).line.inPitch + 1)
      ∧ (beforeMark.inputs.reset = false ∧ (beforeCount beforeMark).line.backlash = 0
        ∧ (beforeCount beforeMark).units.length = 19
        ∧ (beforeCount beforeMark).geometry.c ≤ (beforeCount beforeMark).line.inPitch + 1)
      ∧ (let s := updateUnit 15 (fun u => { u with window := some ⟨20, true, 120, 1, none⟩ }) fitted;
        s.inputs.reset = false
          ∧ s.units[15]?.bind (fun t => t.window) = some ⟨20, true, 120, 1, none⟩)
      ∧ (fitted.inputs.reset = false ∧ fitted.units[1]? = some TimingUnit.initial
        ∧ ∀ w, TimingUnit.initial.window = some w → w.enabled = false) := by
  unfold NonePending
  exact ⟨by decide +kernel, by decide +kernel, by decide +kernel, by decide +kernel,
    ⟨by decide, rfl⟩, by decide, rfl, nofun⟩

/-- A phase reached with a unit that has pending settings; insert I1 called at its offset and not; the
piece at the carrier offset with a job ready and without. -/
theorem test_witness_UnitsActAtTheirPhases_arrivals :
    (let s : State := { beforeMark with line := { beforeMark.line with inPitch := 9 } };
      (beforeCount s).line.inPitch + 1 < (beforeCount s).geometry.c
        ∧ (unitAt (beforeCount s) 14).pending ≠ none ∧ (beforeCount s).line.state ≠ .stopped)
      ∧ (unitAt (beforeCount beforePhase) 14).pending = none
      ∧ ((insertOffset fitted.geometry 0).bind (pieceAt (tracked 1 .forming none))).map
          (fun p => p.number) = some 5
      ∧ (let s := updatePiece 5 (fun p => { p with job := .accepted }) (tracked 5 .forming none);
        (pieceAt s s.geometry.cOff).map (fun p => p.job) = some .accepted)
      ∧ (pieceAt (tracked 5 .forming none) 5).map (fun p => p.job) = some .sent := by decide +kernel

/-- The example of section 8.6: U14 on 150, off 230, latency 12,000 µs at a period of 200,000 µs has an
advance of 24 and the effective phases 126 and 206. -/
theorem test_compensation :
    (let u := unitAt (after (.encoderForwardCount ⟨0, 0, []⟩) beforeMark) 14;
      (u.advance, u.effOn, u.effOff, u.compLimit)) = (24, 126, 206, false) := by decide +kernel

/-- A window with one edge, with piece 5 at the station, which its insert I1 calls. -/
theorem test_witness_StationResultsAreJudged :
    (∃ p, (OpenWindow.mk 20 true 120 1 (some 5)).piece = some p.number
        ∧ pieceNumbered (tracked 1 .forming none) p.number = some p ∧ p.version.getLsbD 0 = false
        ∧ findRecord (tracked 1 .forming none) p.key
          = some { record 2 with state := .inFlight, bundle := some 1 }
        ∧ ({ record 2 with state := .inFlight, bundle := some 1 } : Record).withdrawPending = false)
      ∧ pieceNumbered fitted 5 = none
      ∧ ((OpenWindow.mk 20 true 120 0 (some 5)).enabled = true
        ∧ (OpenWindow.mk 20 true 120 0 (some 5)).edges = 0)
      ∧ ((OpenWindow.mk 20 false 120 0 (some 5)).enabled = false
        ∧ 2 ≤ (OpenWindow.mk 20 true 120 2 (some 5)).edges)
      ∧ ({ pieceOfKey 5 19 2 with version := 1 } : Piece).version.getLsbD 0 = true
      ∧ (insertAt fitted.planner 0).required = true
      ∧ (31 + 5 ≤ 31 + fitted.diverter.tolerance ∧ 25 + fitted.diverter.tolerance < 31
        ∧ 31 + fitted.diverter.tolerance < 37) := by
  exact ⟨⟨pieceOfKey 5 19 2, by decide⟩, by decide⟩

/-- A unit of a window with none open and with one open; a piece at the wrap former and none. -/
theorem test_witness_StationResultsAreJudged_windows :
    (isPulse 15 = false ∧ (fitted.units[15]?).map (fun t => t.window) = some none)
      ∧ (let s := updateUnit 15 (fun u => { u with window := some ⟨20, true, 120, 1, none⟩ }) fitted;
        (s.units[15]?).map (fun t => t.window) = some (some ⟨20, true, 120, 1, none⟩))
      ∧ pieceAt fitted fitted.geometry.w = none
      ∧ (pieceAt (tracked 9 .forming none) fitted.geometry.w).map (fun p => p.number) = some 5 := by
  decide

/-- What the diverter statement asks of a state with piece 5 of record 2. -/
abbrev atDiverter (s : State) : Prop :=
  (pieceAt s s.geometry.d).map (fun p => (p.number, p.key)) = some (5, 2)
    ∧ (findRecord s 2).isSome = true ∧ s.geometry.s - 1 ≠ s.geometry.d ∧ s.units.length = 19

/-- The same part with a defect in piece 5. -/
def spoiled (s : State) : State := updatePiece 5 (Piece.withDefect .wrapAbort .wrap) s

theorem test_witness_DiverterDecidesTheArrival :
    (let s := updateRecord 2 (fun r => { r with withdrawPending := true }) (tracked 15 .filling (some .a));
      atDiverter s ∧ (findRecord s 2).map (fun r => r.withdrawPending) = some true)
      ∧ (let s := spoiled (tracked 15 .filling (some .a));
        atDiverter s ∧ (pieceAt s 15).map (fun p => p.defects) = some [⟨.wrapAbort, .wrap⟩]
          ∧ (findRecord s 2).map (fun r => (r.withdrawPending, r.remakeCount)) = some (false, 0)
          ∧ 0 < s.diverter.remakeLimit)
      ∧ (let s := updateRecord 2 (fun r => { r with remakeCount := 2 })
          (spoiled (tracked 15 .filling (some .a)));
        atDiverter s ∧ (findRecord s 2).map (fun r => r.remakeCount) = some s.diverter.remakeLimit)
      ∧ (atDiverter (tracked 15 .held (some .a))
        ∧ (pieceAt (tracked 15 .held (some .a)) 15).map (fun p => p.defects) = some []
        ∧ (findBundle (tracked 15 .held (some .a)) 1).map (fun b => b.state) = some .held)
      ∧ (atDiverter (tracked 15 .forming none)
        ∧ (findBundle (tracked 15 .forming none) 1).map (fun b => b.state) = some .forming)
      ∧ (atDiverter (tracked 15 .ejecting (some .a))
        ∧ (findBundle (tracked 15 .ejecting (some .a)) 1).map (fun b => b.state)
          = some .ejecting) := by
  decide +kernel

/-- No piece at D; a line whose diverter stands next to the stacker entry; a bundle that is gone. -/
theorem test_witness_DiverterDecidesTheArrival_lookAhead :
    pieceAt fitted fitted.geometry.d = none
      ∧ (∀ b ∈ [BundleState.held, .forming],
        let s : State :=
          { tracked 15 b none with geometry := { fitted.geometry with s := 16 } }
        s.geometry.s - 1 = s.geometry.d ∧ (pieceAt s s.geometry.d).map (fun p => p.bundle) = some 1
          ∧ (findBundle s 1).map (fun c => c.state) = some b ∧ s.units.length = 19)
      ∧ (let s : State := { tracked 15 .forming none with stacker := fitted.stacker };
        atDiverter s ∧ findBundle s 1 = none) := by decide +kernel

theorem test_witness_StackerTakesOrExceptsThePiece :
    (let s := tracked 17 .filling (some .a);
      (pieceAt s s.geometry.s).map (fun p => (p.key, p.bundle)) = some (2, 1)
        ∧ (findRecord s 2).isSome = true ∧ 2 ∉ s.queue.order ∧ BundleSafe s
        ∧ (findBundle s 1).map (fun b => (b.pocket, b.state, b.final, b.plannedCount))
          = some (some .a, .filling, true, (bundle1 .filling (some .a)).stackedCount + 1))
      ∧ (let s := tracked 17 .closed none;
        (pieceAt s s.geometry.s).map (fun p => (p.key, p.bundle)) = some (2, 1)
          ∧ (findRecord s 2).isSome = true ∧ 2 ∉ s.queue.order ∧ BundleSafe s
          ∧ (findBundle s 1).all (fun b => b.state = .ejecting || b.state = .closed) = true) := by
  unfold BundleSafe
  exact ⟨by decide, by decide⟩

/-- The FORMING bundle 1 without a pocket, beside bundles 2 and 3 in the two pockets. -/
def crowded (a b : BundleState) : State :=
  { tracked 17 .forming none with
    stacker :=
      { fitted.stacker with
        bundles :=
          [bundle1 .forming none, { bundle1 a (some .a) with number := 2 },
            { bundle1 b (some .b) with number := 3 }] } }

/-- The arrival whose look-ahead gets a pocket, and the one that finds both ejecting; the pockets of the
look-ahead: both FREE, one FREE, none; the look-ahead of a mark. -/
theorem test_witness_StackerTakesOrExceptsThePiece_lookAhead :
    (let u := lookAheadFor 1 (tracked 17 .forming none);
      (findBundle u 1).map (fun b => (b.pocket, b.state)) = some (some .a, .forming))
      ∧ (let s := crowded .ejecting .ejecting;
        (pieceAt s s.geometry.s).map (fun p => p.bundle) = some 1 ∧ 2 ∉ s.queue.order ∧ BundleSafe s
          ∧ (findBundle (lookAheadFor 1 s) 1).map (fun b => (b.pocket, b.state))
            = some (none, .forming))
      ∧ (let s := tracked 17 .forming none;
        pocketState s .a = .free ∧ pocketState s .b = .free ∧ s.stacker.lastReserved = none)
      ∧ (let other := { bundle1 .filling (some .a) with number := 2 };
        let s := requesting [bundle1 .forming none, other] none;
        pocketState s .a ≠ .free ∧ pocketState s .b = .free)
      ∧ (let s := crowded .filling .held;
        pocketState s .a ≠ .free ∧ pocketState s .b ≠ .free ∧ forceChoice s = some 3)
      ∧ (findBundle (tracked 17 .filling (some .a)) 1).map (fun b => b.state) = some .filling
      ∧ (let s := tracked 16 .forming none;
        s.geometry.s - 1 ≠ s.geometry.d
          ∧ (pieceAt s (s.geometry.s - 1)).map (fun p => p.bundle) = some 1)
      ∧ pieceAt fitted (fitted.geometry.s - 1) = none := by
  unfold BundleSafe
  exact ⟨by decide +kernel, by decide +kernel, by decide, by decide, by decide, by decide, by decide,
    by decide⟩

/-- The displacement for a new bundle in pocket A: nothing in B, a complete bundle there, one that is
not complete with a hold limit of 0 and of 24; a claim that stands and one that ends. -/
theorem test_witness_StackerTakesOrExceptsThePiece_claims :
    bundleIn fitted .b = none
      ∧ (let b := { bundle1 .filling (some .b) with plannedCount := 2 };
        bundleIn (requesting [b] none) .b = some b ∧ b.state = .filling
          ∧ (b.final = true ∧ 1 ≤ b.stackedCount ∧ b.stackedCount = b.plannedCount))
      ∧ (let s := requesting [bundle1 .filling (some .b)] none;
        bundleIn s .b = some (bundle1 .filling (some .b)) ∧ s.stacker.holdLimit ≠ 0
          ∧ ({ s with stacker := { s.stacker with holdLimit := 0 } } : State).stacker.holdLimit = 0
          ∧ (bundle1 .filling (some .b)).stackedCount ≠ (bundle1 .filling (some .b)).plannedCount)
      ∧ (let s := updatePiece 5 (fun p => { p with claim := true }) (tracked 15 .held (some .a));
        ∃ p ∈ s.tracking.pieces, p.bundle = 1 ∧ p.claim = true)
      ∧ (let s := tracked 15 .held (some .a);
        (findBundle s 1).map (fun b => b.state) = some .held
          ∧ ∀ p ∈ s.tracking.pieces, p.bundle = 1 → p.claim = false) := by decide +kernel

/-- A part RUNNING whose front record is planned for ordinal 0 of plan 0, allocated as bundle 1. -/
def planned7 : State :=
  { lineAt .running 20 0 with
    store := [{ record 7 with planRef := some ⟨0, 0⟩, bundle := some 1 }]
    queue := { fitted.queue with order := [7] }
    planner :=
      { fitted.planner with
        plans :=
          [some
            { route := 300, kind := .complete, nmax := 50, mmax := 10000,
              sizes := [⟨3, 720, true, false, .allocated 1⟩], closedToGrowth := false },
            none, none, none] }
    stacker := { fitted.stacker with bundles := [bundle1 .forming none] } }

theorem test_witness_BirthDecisionBearsOrGaps :
    LineState.stopped.moving = false ∧ (LineState.running.moving = true ∧ candidate .running fitted = none)
      ∧ (candidate .draining queued7 = some (record 7) ∧ (record 7).kind = .normal)
      ∧ (candidate .running queued7 = some (record 7)
        ∧ 64 ≤ (List.replicate 64 (ExceptionEntry.mk 9 .spoiled none none 2)).length)
      ∧ ((candidate .running planned7).map (fun r => (r.key, r.bundle)) = some (7, some 1)
        ∧ planned7.stacker.exceptions.length < 64
        ∧ (candidate .running planned7).map (birthCase planned7) = some .planned
        ∧ candidate .running planned7 = findRecord planned7 7)
      ∧ planned7.carrier.accumulator + planned7.carrier.lq % 4 < 4
      ∧ 4 ≤ 1 + 11 % 4 := by decide +kernel

/-- A part RUNNING whose front record has no plan, with a plan 0 and bundles. -/
def fronted (p : Option Plan) (bs : List Bundle) : State :=
  { lineAt .running 20 0 with
    store := [record 7]
    queue := { fitted.queue with order := [7] }
    planner := { fitted.planner with plans := [p, none, none, none] }
    stacker := { fitted.stacker with bundles := bs } }

/-- An OPEN plan of the front record's route, its current ordinal 0 allocated as bundle 1. -/
def openPlan (count : Nat) (closed : Bool) (sizes : Nat) : Plan :=
  { route := 300
    kind := .openAt 0
    nmax := 50
    mmax := 10000
    sizes := List.replicate sizes { ordinal count (.allocated 1) with final := false }
    closedToGrowth := closed }

/-- What the birth statement asks of a state and its candidate. -/
abbrev decides (s : State) (c : BirthCase) : Prop :=
  (candidate .running s).map (fun r => (r.key, r.kind)) = some (7, .normal)
    ∧ s.stacker.exceptions.length < 64 ∧ (candidate .running s).map (birthCase s) = some c

/-- The cases: a WAITING ordinal, a new route with and without a free plan, an OPEN plan that the
candidate joins, one at whose count it opens the next, one closed to growth; bundles full and not. -/
theorem test_witness_BirthDecisionBearsOrGaps_cases :
    (let s : State := { planned7 with
        planner :=
          { planned7.planner with
            plans := [some { openPlan 3 false 1 with sizes := [ordinal 3 .waiting] }, none, none, none] } };
      decides s (.waiting ⟨0, 0⟩) ∧ s.stacker.bundles.length < 24)
      ∧ (decides (fronted none []) .newRoute ∧ freePlan (fronted none []) = some 0)
      ∧ (let s : State := { fronted none [] with
          planner :=
            { fitted.planner with
              plans := List.replicate 4 (some { openPlan 1 false 1 with route := 4 }) } };
        decides s .newRoute ∧ freePlan s = none)
      ∧ (decides (fronted (some (openPlan 2 false 1)) [bundle1 .forming none]) (.growing 0)
        ∧ JoinsCurrent (fronted (some (openPlan 2 false 1)) [bundle1 .forming none])
          (openPlan 2 false 1) (record 7) 0 1)
      ∧ (decides (fronted (some (openPlan 50 false 1)) [bundle1 .forming none]) (.growing 0)
        ∧ ∀ c n, ¬ JoinsCurrent (fronted (some (openPlan 50 false 1)) [bundle1 .forming none])
          (openPlan 50 false 1) (record 7) c n)
      ∧ (decides (fronted (some (openPlan 2 true 1)) [bundle1 .forming none]) (.growing 0)
        ∧ (openPlan 2 true 1).closedToGrowth = true)
      ∧ 24 ≤ (List.replicate 24 (bundle1 .forming none)).length := by
  refine ⟨by decide +kernel, by decide +kernel, by decide +kernel, ⟨by decide +kernel, rfl, ?_⟩,
    ⟨by decide +kernel, ?_⟩, by decide +kernel, by decide⟩
  · exact ⟨_, bundle1 .forming none, rfl, rfl, rfl, rfl, .inl rfl, by decide, by decide⟩
  · rintro c n ⟨hk, o, b, ho, -, -, -, -, hc, -⟩
    obtain rfl : (0 : Nat) = c := by injection hk
    rw [← Option.some.inj ho] at hc
    exact absurd hc (by decide)

/-- A plan of 512 ordinals is closed by the next one that would open. -/
theorem test_witness_BirthDecisionBearsOrGaps_closed :
    512 ≤ (openPlan 50 false 512).sizes.length := Nat.le_of_eq List.length_replicate.symm

/-- A front section at the burst limit with a NORMAL record behind it. -/
def burst : State :=
  { lineAt .running 20 0 with
    store := [{ record 6 with kind := .remake }, record 7]
    queue := { fitted.queue with order := [6, 7], consecutive := 4 } }

/-- The candidate; the ordinals that the allocation, the finality and the plan making speak of. -/
theorem test_witness_BirthDecisionBearsOrGaps_parts :
    (burst.queue.order.filterMap (findRecord burst)).map (fun r => (r.key, r.kind))
        = [(6, .remake), (7, .normal)]
      ∧ burst.queue.burst ≤ burst.queue.consecutive
      ∧ queued7.queue.order.filterMap (findRecord queued7) = record 7 :: []
      ∧ fitted.queue.order.filterMap (findRecord fitted) = []
      ∧ ordinalAt (departing (ordinal 1 .waiting) forming1) ⟨0, 0⟩ = some (ordinal 1 .waiting)
      ∧ (ordinalAt planned7 ⟨0, 0⟩).map (fun o => o.status) = some (.allocated 1)
      ∧ (planAt (fronted (some (openPlan 2 false 1)) []) 0 = some (openPlan 2 false 1)
        ∧ (openPlan 2 false 1).kind = .openAt 0
        ∧ ((openPlan 2 false 1).sizes[0]?).map (fun o => o.final) = some false)
      ∧ planAt fitted 0 = none ∧ 0 < fitted.planner.plans.length
      ∧ (let s := queuedAs (fun r => { r with endOfRoute := true });
        s.queue.order.filterMap (findRecord s) = [] ++ { record 7 with endOfRoute := true } :: [])
      ∧ (record 7).endOfRoute = false := by decide +kernel

theorem test_witness_CompletePlanDividesItsMembers :
    1 ≤ 3 ∧ 1 ≤ 10000 ∧ [record 1, record 2, record 3, record 4, record 5] ≠ []
      ∧ (divideMembers 3 10000 5 [record 1, record 2, record 3, record 4, record 5]).map
        (fun g => g.length) = [3, 2] := by decide +kernel

/-- A state of a job under way meets every relation and steps to a next state. -/
theorem test_witness_StepKeeps :
    LineSafe planned7.line ∧ StoreSafe planned7 ∧ BundleSafe planned7 ∧ PhaseSafe planned7
      ∧ LeadSafe planned7.carrier
      ∧ step { planned7 with pending := [.pause (.fields ())] }
        = .next (after (.pause (.fields ())) planned7) := by
  unfold LineSafe StoreSafe BundleSafe PhaseSafe LeadSafe
  exact ⟨by decide, by decide, by decide, by decide, by decide, rfl⟩

/-- The part right after reset has its settings in range, and steps. -/
theorem test_witness_StepKeepsSettingsSafe :
    SettingsSafe State.reset ∧ step State.reset = .next (tick State.reset) := by
  refine ⟨?_, rfl⟩
  unfold SettingsSafe setupInRange PrinterSafe ProductSafe UnitsSafe UnitSettings.InRange
  refine ⟨by decide, by decide, by decide, by decide, by decide, by decide, by decide, by decide,
    by decide, by decide, by decide, by decide, by decide, by decide, by decide, ⟨by decide, ?_⟩,
    nofun, nofun⟩
  intro u hu
  rw [show u = TimingUnit.initial from List.eq_of_mem_replicate hu]
  exact ⟨by decide, nofun⟩

/-! ### Witnesses of the clauses on layouts, cancels, time limits and the cases of a birth -/

/-- The outputs while the reset input is not asserted: DRIVE-ON, EJECT, a pulse and the gauge strobe. -/
theorem test_witness_AssertedResetInputTakesNoEvent_outputs :
    driveOn (lineAt .running 3 7) = true ∧ ejectOutput (bundled .ejecting (some .a)) .a = true
      ∧ unitOutput (updateUnit 0 (fun u => { u with pulse := some 90 }) fitted) 0 = true
      ∧ (let s := updateUnit 16 (fun u => { u with window := some ⟨20, true, 120, 0, none⟩ }) fitted;
        s.inputs.reset = false ∧ unitOutput s 16 = true) := by decide

/-- A position with a piece whose entry stands, and one without. -/
theorem test_witness_SnapshotLatchesNamedItems_positions :
    (let s := tracked 8 .forming none;
      (pieceAt s 8).map (fun p => p.number) = some 5 ∧ 5 ∈ s.verify.expected)
      ∧ pieceAt fitted 8 = none := by decide

/-- The units at a new C of 100: phases 398 and 399 would both become 99, so the lower becomes 98. -/
theorem test_witness_SetGeometryReplacesMap_units :
    (2 ≤ 100 ∧ TimingUnit.initial.settings.on ≠ TimingUnit.initial.settings.off
        ∧ TimingUnit.initial.pending = none)
      ∧ (let t := { TimingUnit.initial with settings := ⟨true, 399, 398, 0⟩ };
        ¬ (t.settings.on < 100 - 1 ∨ t.settings.off < 100 - 1)
          ∧ ((TimingUnit.atNewC 100 t).effOn, (TimingUnit.atNewC 100 t).effOff) = (99, 98)) := by
  decide

/-- A SET UNIT at rest with an order not yet begun, before and after its on phase, and with a window of
this pitch not yet opened: U0 at on phase 40, U15 at 40, with the in-pitch count at 39 and at 40. -/
theorem test_witness_SetUnitWritesOrPends_now :
    (∀ n ∈ [39, 40], let s := giveOrder 0 (lineAt .stopped 3 n);
      isPulse 0 = true ∧ (unitAt s 0).ordered = true ∧ s.line.inPitch = n)
      ∧ (let s := lineAt .stopped 3 40;
        isPulse 15 = false ∧ 15 < s.units.length ∧ (unitAt s 15).opened = false
          ∧ 40 ≤ s.line.inPitch)
      ∧ (unitAt (writeUnit 0 ⟨true, 40, 90, 0⟩ (giveOrder 0 (lineAt .stopped 3 40))) 0).pulse
        = some 90
      ∧ (unitAt (writeUnit 0 ⟨true, 40, 90, 0⟩ (giveOrder 0 (lineAt .stopped 3 39))) 0).ordered
        = true := by decide +kernel

/-- A DRAINING line without pieces: a FORMING bundle 1 that a request names, bundles 2 and 3 in the
pockets. -/
def drainable : State :=
  { crowded .filling .held with
    store := [{ record 8 with kind := .return, bundle := some 1 }]
    line := draining.line
    tracking := fitted.tracking
    queue := { fitted.queue with order := [8] }
    stacker := { (crowded .filling .held).stacker with request := some 1 } }

theorem test_witness_DrainByLineState_completion :
    (BundleSafe drainable ∧ Drained drainable ∧ drainable.line.state = .draining)
      ∧ (drainTest drainable).stacker.bundles.map (fun b => (b.number, b.state, b.reason))
        = [(2, .ejecting, some .drain), (3, .ejecting, some .drain)]
      ∧ (drainTest drainable).stacker.lastFreed = some ⟨1, 300, .drain⟩
      ∧ (drainTest drainable).store.map (fun r => r.bundle) = [none] := by
  unfold BundleSafe Drained
  exact ⟨⟨by decide, ⟨rfl, by decide, by decide⟩, rfl⟩, by decide +kernel, by decide +kernel,
    by decide +kernel⟩

/-- FIND in EXCEPTION: key 9 with its entry, no queue position. -/
theorem test_witness_FindReportsRecord_exception :
    (findRecord excepted 9).map (fun r => r.state) = some .exception
      ∧ (foundPiece excepted { record 9 with state := .exception }) = some 4 := by decide

/-- The cancel of a withdrawn piece's job in each of its states, and the bundle that is emptied while a
pocket is reserved for it and another bundle waits for one. -/
theorem test_witness_WithdrawByRecordState_jobs :
    (∀ j ∈ [JobState.none, .due, .sent, .accepted, .printed, .refused, .cancelled],
      let s := updatePiece 5 (fun p => { p with job := j }) (tracked 8 .forming none);
      Listening s ∧ (pieceOf s 2).map (fun p => (p.job, p.stage)) = some (j, .carried)
        ∧ (findRecord s 2).map (fun r => (r.state, r.withdrawPending)) = some (.inFlight, false))
      ∧ (let b := { forming1 with pocket := some .a };
        let s := departing (ordinal 1 (.allocated 1)) b;
        findBundle s 1 = some b ∧ max b.stackedCount (b.plannedCount - 1) = 0 ∧ b.pocket ≠ none)
      ∧ (after (.withdraw (.fields 2)) (tracked 8 .forming none)).carrier.waiting
        = [.cancel 5] := by
  unfold Listening TakesFrames; decide +kernel

/-- The pitch period at a mark reached RUNNING, at one whose pause stops the line, and STOPPED. -/
theorem test_witness_ForwardCountMovesPhaseAndPitch_period :
    (let t := after (.encoderForwardCount ⟨0, 0, []⟩) beforeMark;
      (beforeCount beforeMark).line.state = .running ∧ t.line.state = .running
        ∧ (t.line.period, t.line.sinceMark) = (some 200000, some 0))
      ∧ (let t := after (.encoderForwardCount ⟨0, 0, []⟩) (after (.pause (.fields ())) beforeMark);
        t.line.state ≠ .running ∧ (t.line.period, t.line.sinceMark) = (none, none))
      ∧ (beforeCount (lineAt .stopped 0 399)).line.state = .stopped := by decide +kernel

/-- The request: absent; standing with no FREE pocket; standing with one FREE and with both. -/
theorem test_witness_ClearEdgeCompletesEjection_request :
    fitted.stacker.request = none
      ∧ (let s := { drainable with tracking := fitted.tracking };
        s.stacker.request = some 1 ∧ pocketState s .a ≠ .free ∧ pocketState s .b ≠ .free)
      ∧ (let s := requesting [bundle1 .forming none, { bundle1 .held (some .b) with number := 2 }] (some 1);
        s.stacker.request = some 1 ∧ pocketState s .a = .free ∧ pocketState s .b ≠ .free)
      ∧ (let s := requesting [bundle1 .forming none] (some 1);
        pocketState s .a = .free ∧ pocketState s .b = .free ∧ s.stacker.lastReserved = none) := by
  decide +kernel

/-- The line and the eject timer of pocket A at some ms, with the default limits. -/
def timing (l : LineState) (holdMs ejectMs : Nat) : State :=
  { bundled .ejecting (some .a) with
    line := { (lineAt l 20 0).line with holdTimer := ⟨holdMs, 0⟩ }
    stacker :=
      { (bundled .ejecting (some .a)).stacker with ejectA := ⟨⟨ejectMs, 0⟩, false⟩ } }

/-- POCKET-JAM in each line state; limits that fall outside the span, the hold limit first, the eject
limit first, and both at one moment. -/
theorem test_witness_TimeLimitsRaiseTheirFaults_time :
    (∀ l ∈ [LineState.idle, .stopped, .running, .draining, .holding, .faulted],
      pocketState (timing l 0 0) .a = .ejecting ∧ (ejectTimer (timing l 0 0) .a).jammed = false)
      ∧ (let s := timing .holding 9990 0;
        s.line.holdLimit * 1000 - (9990 * 1000 + 0) = 10000 ∧ s.line.holdLimit ≠ 0
          ∧ (s.stacker.ejectLimit + 1) * 1000 - 0 = 3001000)
      ∧ ((passTime 9999 (timing .holding 9990 0)).line.state = .holding
        ∧ (passTime 9999 (timing .holding 9990 0)).line.holdTimer = ⟨9999, 999⟩)
      ∧ ((passTime 10000 (timing .holding 9990 0)).line.first = some .holdTimeout
        ∧ (passTime 10000 (timing .holding 9990 0)).line.state = .faulted)
      ∧ ((passTime 3001000 (timing .running 0 0)).line.first = some .pocketJam
        ∧ (passTime 3000999 (timing .running 0 0)).line.state = .running)
      ∧ (10000 * 1000 - 6999 * 1000 = (3000 + 1) * 1000 - 0
        ∧ (timing .holding 6999 0).line.holdLimit = 10000
        ∧ (timing .holding 6999 0).stacker.ejectLimit = 3000
        ∧ bundleIn (timing .holding 6999 0) .b = none) := by decide +kernel

/-- A hold that the answer of the job it waits for ends, with and without the drain flag. -/
theorem test_witness_PrinterAnswersResolveJobs_resume :
    (let s := lineAt .holding 3 7;
      s.line.state = .holding ∧ s.holds.causes = HoldSet.none ∧ (settle s).line.state = .running)
      ∧ (let s := inState .holding (drainAtRest (tracked 8 .forming none));
        s.holds.causes = HoldSet.none ∧ (settle s).line.state = .draining)
      ∧ (waiting (lineAt .holding 3 7)).holds.causes ≠ HoldSet.none := by decide +kernel

/-- A feed miss of a piece whose job is SENT, with a withdrawal pending and without. -/
theorem test_witness_StationResultsAreJudged_miss :
    (let s := updateRecord 2 (fun r => { r with withdrawPending := true }) (tracked 0 .forming none);
      (pieceNumbered s 5).map (fun p => (p.key, p.job)) = some (2, .sent)
        ∧ (findRecord s 2).map (fun r => r.withdrawPending) = some true
        ∧ findRecord (deliverResult 1 ⟨20, true, 120, 0, some 5⟩ s) 2 = none)
      ∧ (let t := deliverResult 1 ⟨20, true, 120, 0, some 5⟩
          { tracked 0 .forming none with queue := { fitted.queue with order := [1, 3] } };
        t.queue.order = [2, 1, 3])
      ∧ (deliverResult 1 ⟨20, true, 120, 0, some 5⟩ (tracked 0 .forming none)).carrier.waiting
        = [.cancel 5]
      ∧ (fitted.geometry.isSet = true ∧ State.reset.geometry.isSet = false
        ∧ unitStation fitted.geometry 8 = some 1 ∧ unitStation fitted.geometry 11 = none) := by
  decide +kernel

/-- A reference to an ordinal RELEASED, SKIPPED or EMPTIED, one ALLOCATED and one WAITING; a route whose
plan is in entry 1, behind one of another route. -/
theorem test_witness_BirthDecisionBearsOrGaps_references :
    (∀ o ∈ [OrdinalStatus.released, .skipped, .emptied, .allocated 1, .waiting],
      (ordinalAt (departing (ordinal 1 o) forming1) ⟨0, 0⟩).map (fun x => x.status) = some o)
      ∧ (let s : State := { fitted with
          planner :=
            { fitted.planner with
              plans := [some { openPlan 1 false 1 with route := 4 }, some (openPlan 1 false 1), none,
                none] } };
        planAt s 1 = some (openPlan 1 false 1) ∧ (openPlan 1 false 1).route = (record 7).route
          ∧ (planAt s 0).map (fun p => p.route) = some 4 ∧ (record 7).planRef = none
          ∧ birthCase s (record 7) = .growing 1 ∧ freePlan s = some 2)
      ∧ (birthCase fitted (record 7) = .newRoute ∧ unplanned fitted (record 7) = true) := by
  decide +kernel

/-- A piece with one defect. -/
def marred : Piece := (pieceOfKey 5 10 2).withDefect .wrapAbort .wrap

/-- A piece whose defect list is full. -/
def crammed : Piece :=
  { pieceOfKey 5 10 2 with
    defects :=
      [⟨.magDouble, .magazine⟩, ⟨.insertMiss, .insert 0⟩, ⟨.insertDouble, .insert 1⟩, ⟨.noPrint, .carrier⟩] }

/-- R85: a defect already in the list; one for a list with room; one for a full list. -/
theorem test_witness_StationResultsAreJudged_defects :
    (⟨.wrapAbort, .wrap⟩ ∈ marred.defects ∨ ⟨.wrapAbort, .wrap⟩ ∈ marred.overflowed)
      ∧ (¬ (⟨.cutFault, .cut⟩ ∈ marred.defects ∨ ⟨.cutFault, .cut⟩ ∈ marred.overflowed)
        ∧ marred.defects.length < 4)
      ∧ (¬ (⟨.wrapAbort, .wrap⟩ ∈ crammed.defects ∨ ⟨.wrapAbort, .wrap⟩ ∈ crammed.overflowed)
        ∧ 4 ≤ crammed.defects.length) := by decide

/-- R85, R114 and log entry 27: a second WRAP-ABORT, and a second KEY-MISMATCH, of a piece whose list was
full at the first adds nothing; the overflow count stays at 255. -/
theorem test_second_finding_adds_nothing :
    ((crammed.withDefect .wrapAbort .wrap).withDefect .wrapAbort .wrap).overflow = 1
      ∧ ((crammed.withDefect .keyMismatch .verify).withDefect .keyMismatch .verify).overflow = 1
      ∧ ((crammed.withDefect .wrapAbort .wrap).withDefect .keyMismatch .verify).overflow = 2
      ∧ (({ crammed with overflow := 255 } : Piece).withDefect .cutFault .cut).overflow = 255 := by
  decide

/-- R69: the later stage stands. -/
theorem test_passed_keeps_the_later_stage :
    ((pieceOfKey 5 10 2).passed .cut).stage = .cut
      ∧ ((pieceOfKey 5 10 2).passed .fed).stage = .carried := by decide

/-- A window opened in a gap, and one of a piece that has left. -/
theorem test_witness_StationResultsAreJudged_gap :
    (OpenWindow.mk 20 true 120 1 none).piece = none
      ∧ (OpenWindow.mk 20 true 120 1 (some 5)).piece = some (pieceOfKey 5 10 2).number
      ∧ pieceNumbered fitted 5 = none := by decide

/-- The change at a mark (R58, R60): a pause, a hold cause raised at the mark that still stands, one that
has left again, a drain that has completed, and a line whose DRIVE-ON is off. -/
theorem test_witness_PitchMarkChangesLineState_change :
    let raised (causes : HoldSet) : State :=
      { lineAt .running 20 0 with
        holds := { causes := causes, raised := { HoldSet.none with pocketWait := true } } }
    (raised { HoldSet.none with pocketWait := true }).line.pause = false
      ∧ (changeAtMark .running (raised { HoldSet.none with pocketWait := true })).line.state = .holding
      ∧ (changeAtMark .running (raised { HoldSet.none with printerWait := true })).line.state = .running
      ∧ (changeAtMark .running (after (.pause (.fields ())) (lineAt .running 20 0))).line.state
        = .stopped
      ∧ changeAtMark .draining (lineAt .stopped 20 0) = lineAt .stopped 20 0
      ∧ (changeAtMark .holding (lineAt .holding 20 0)).line.first = some .overrun := by decide +kernel

/-- The example of section 8.6, a period beyond 10 s, and an advance held at C - 1. -/
theorem test_witness_UnitsActAtTheirPhases_advance :
    advanceFor 400 12000 (some 200000) = 24 ∧ advanceFor 400 12000 (some 10000001) = 0
      ∧ advanceFor 400 50000 (some 20000) = 399 := by decide

/-- A result within a pitch reaches its station: the window of U15 closes at phase 10 with an edge, and
piece 5 has the defect; another with no edge passes the cut. -/
theorem test_window_result_within_a_pitch :
    ∀ e ∈ [0, 1],
      let s := updateUnit 15 (fun u => { u with opened := true, window := some ⟨20, true, 10, e, some 5⟩ })
        { tracked 11 .forming none with line := (lineAt .running 20 9).line }
      (after (.encoderForwardCount ⟨0, 0, []⟩) s).tracking.pieces.map
          (fun p => (p.defects, p.stage))
        = [if e = 0 then ([], .cut) else ([⟨.cutFault, .cut⟩], .carried)] := by decide +kernel

/-- R135: the hold age across the turn of the pitch count. -/
theorem test_witness_HoldExpiryClosesHeldBundles_age :
    holdAge (lineAt .running 3 0) { bundle1 .held (some .a) with holdStart := some 4294967290 } = 9 := by
  decide

/-- R194: items named out of order and in two commands stand in increasing order. -/
theorem test_snapshot_order :
    let s := after (.snapshot (.fields ⟨0, 0x40#64, 0x100#24⟩)) fitted
    let t := after (.snapshot (.fields ⟨0, 0x82#64, 0x201#24⟩)) s
    t.host.positionItems.map (fun i => i.position) = [1, 6, 7]
      ∧ t.host.unitItems.map (fun i => i.unit) = [0, 8, 9] := by decide +kernel

end Sys2Proof.Tests
end

/-! PROOF. AMEND (R19, R20): its checks, what an amended record is, and O32. -/

namespace Sys2Proof.Machine

/-- The RANGE check of R19 passes: a text or a version is carried, the text is in form, and every insert
of the version is fitted. -/
def AmendFormed (f : AmendFields) (g : Geometry) : Prop :=
  (f.text ≠ none ∨ f.version ≠ none) ∧ (∀ t, f.text = some t → textInForm t = true)
    ∧ ∀ v, f.version = some v → versionFitted g v = true

/-! ### The checks -/

/-- The model's RANGE check refuses what is not `AmendFormed`. -/
theorem amendRangeCheck_iff (f : AmendFields) (g : Geometry) :
    (!((f.text.isSome || f.version.isSome) && f.text.all textInForm
      && f.version.all (versionFitted g))) = true ↔ ¬ AmendFormed f g := by
  simp only [AmendFormed, Bool.not_eq_true', ← Bool.not_eq_true, Bool.and_eq_true, Bool.or_eq_true,
    Option.isSome_iff_ne_none, Option.all_eq_true, and_assoc]

section Checks
variable {f : AmendFields} {r : Record} {s : State}

theorem amendCause_of_not_queued (hq : r.state ≠ .queued) : amendCause f r s = some .state :=
  if_pos hq

theorem amendCause_of_limit (hq : r.state = .queued) (hn : 4 ≤ r.amendCount) :
    amendCause f r s = some .limit := by
  rw [amendCause, if_neg (not_not.mpr hq), if_pos hn]

theorem amendCause_of_not_formed (hq : r.state = .queued) (hn : r.amendCount < 4)
    (hf : ¬ AmendFormed f s.geometry) : amendCause f r s = some .range := by
  rw [amendCause, if_neg (not_not.mpr hq), if_neg (Nat.not_le.mpr hn),
    if_pos ((amendRangeCheck_iff f s.geometry).mpr hf)]

/-- Once the other checks pass, the plan check is left: STATE for a version on a planned record. -/
theorem amendCause_of_formed (hq : r.state = .queued) (hn : r.amendCount < 4)
    (hf : AmendFormed f s.geometry) :
    amendCause f r s = if f.version.isSome && r.planRef.isSome then some .state else none := by
  rw [amendCause, if_neg (not_not.mpr hq), if_neg (Nat.not_le.mpr hn),
    if_neg (fun hc => (amendRangeCheck_iff f s.geometry).mp hc hf)]

theorem amendCause_of_planned (hq : r.state = .queued) (hn : r.amendCount < 4)
    (hf : AmendFormed f s.geometry) (hv : f.version ≠ none) (hp : r.planRef ≠ none) :
    amendCause f r s = some .state := by
  simp [amendCause_of_formed hq hn hf, Option.isSome_iff_ne_none, hv, hp]

theorem amendCause_of_taken (hq : r.state = .queued) (hn : r.amendCount < 4)
    (hf : AmendFormed f s.geometry) (hp : f.version = none ∨ r.planRef = none) :
    amendCause f r s = none := by
  rw [amendCause_of_formed hq hn hf]
  rcases hp with hv | hr
  · simp [hv]
  · simp [hr]

end Checks

/-! ### The amended record -/

/-- An amended record, field by field: a version brings its nominal values with it (R20). -/
theorem amended_eq (p : Planner) (f : AmendFields) (r : Record) :
    amended p f r =
      { r with
        text := (f.text.map splitLines).getD r.text
        version := f.version.getD r.version
        nominalMass := (f.version.map (nominalMassOf p)).getD r.nominalMass
        nominalThickness := (f.version.map (thicknessOf p)).getD r.nominalThickness
        amendCount := r.amendCount + 1 } := by
  obtain ⟨key, text, version⟩ := f
  cases text <;> cases version <;> rfl

/-! ### The command -/

section Command
variable {f : AmendFields} {r : Record} {s : State}

/-- A listening part runs AMEND with the setup latch emptied. -/
theorem exec_amend (h : Listening s) :
    exec (.amend (.fields f)) s = .next (amend f (emptyLatch s)) :=
  congrArg Host.Outcome.next (hostCommand_listening f amend h)

theorem amend_of_absent (hr : findRecord s f.key = none) : amend f s = refuseWith .notFound s := by
  rw [amend, hr]

theorem amend_of_cause {c : ResultCode} (hr : findRecord s f.key = some r)
    (hc : amendCause f r s = some c) : amend f s = refuseWith c s := by
  simp only [amend, hr, hc]

theorem amend_of_no_cause (hr : findRecord s f.key = some r) (hc : amendCause f r s = none) :
    amend f s = answer .ok [] (updateRecord f.key (amended s.planner f) s) := by
  simp only [amend, hr, hc]

theorem exec_amend_absent (h : Listening s) (hr : findRecord s f.key = none) :
    Refuses .notFound s (exec (.amend (.fields f)) s) :=
  ⟨[], by rw [exec_amend h, amend_of_absent (s := emptyLatch s) hr, refuseWith_emptyLatch]⟩

theorem exec_amend_refused {c : ResultCode} (h : Listening s) (hr : findRecord s f.key = some r)
    (hc : amendCause f r s = some c) : Refuses c s (exec (.amend (.fields f)) s) :=
  ⟨[], by rw [exec_amend h, amend_of_cause (s := emptyLatch s) hr hc, refuseWith_emptyLatch]⟩

/-- An accepted AMEND changes the record of its key, the response slot and the setup latch. -/
theorem exec_amend_accepted (h : Listening s) (hr : findRecord s f.key = some r)
    (hc : amendCause f r s = none) :
    exec (.amend (.fields f)) s = .next
      { s with
        store := s.store.map (fun a => if a.key = f.key then amended s.planner f a else a)
        host := s.host.answered .ok [] } := by
  rw [exec_amend h, amend_of_no_cause (s := emptyLatch s) hr hc]
  rfl

end Command

/-- Settles O32: each check of R19 gives its cause, and an accepted AMEND writes the amended record. -/
theorem amendReplacesTextAndVersion : Obligations.AmendReplacesTextAndVersion := by
  intro f s h
  refine ⟨exec_amend_absent h, fun r hr => ⟨?notQueued, ?limit, ?range, ?planned, ?accepted⟩⟩
  case notQueued => exact fun hq => exec_amend_refused h hr (amendCause_of_not_queued hq)
  case limit => exact fun hq hn => exec_amend_refused h hr (amendCause_of_limit hq hn)
  case range => exact fun hq hn hf => exec_amend_refused h hr (amendCause_of_not_formed hq hn hf)
  case planned =>
    exact fun hq hn hf hv hp => exec_amend_refused h hr (amendCause_of_planned hq hn hf hv hp)
  case accepted =>
    intro hq hn hf hp
    simpa only [amended_eq] using exec_amend_accepted h hr (amendCause_of_taken hq hn hf hp)

end Sys2Proof.Machine

/-! PROOF. The settings of the planner (R27, R28, R31): the three commands that replace them, the resets
and confirms that keep them, and O13, O14 and O15. -/

namespace Sys2Proof.Machine

/-! ### The resets and confirms keep the settings

Two planners have the same settings when they agree with every plan entry FREE (`Planner.emptied`). -/

/-- An act that leaves the settings alone (`BlockStep`) changes nothing of the planner but its plans. -/
theorem BlockStep.planner_emptied {s t : State} (h : BlockStep s t) :
    t.planner.emptied = s.planner.emptied := by
  simp only [Planner.emptied, h.product, h.filmMass, h.inserts, h.nmax, h.mmax]

theorem stopLine_planner_emptied (l : LineState) (s : State) :
    (stopLine l s).planner.emptied = s.planner.emptied :=
  (applyPending_step (enterLine l s)).planner_emptied

theorem resetCommand_planner_emptied (s : State) :
    (resetCommand s).planner.emptied = s.planner.emptied := by
  simp only [resetCommand, resetBlocks, produceCancelAll_planner, Planner.emptied]

theorem completeClear_planner_emptied (s : State) :
    (completeClear s).planner.emptied = s.planner.emptied := by
  simp only [completeClear, clearBlocks, produceCancelAll_planner, stopLine_planner_emptied]
  rfl

theorem completeJob_planner_emptied (low start : Nat) (s : State) :
    (completeJob low start s).planner.emptied = s.planner.emptied := by
  simp only [completeJob, jobBlocks, stopLine_planner_emptied]
  rfl

/-- The RESET command, taken or discarded, keeps the settings. -/
theorem exec_reset_planner_emptied {s t : State} (h : exec (.reset (.fields ())) s = .next t) :
    t.planner.emptied = s.planner.emptied := by
  cases h
  rcases takeFrame_cases (takeReset (.fields ())) s with e | e | ⟨_, e⟩
  · rw [e]
  · rw [e]
  · exact e ▸ resetCommand_planner_emptied s

theorem exec_clearConfirmCompletion_planner_emptied {s t : State}
    (h : exec .clearConfirmCompletion s = .next t) : t.planner.emptied = s.planner.emptied := by
  cases h
  rcases lineEvent_cases clearConfirmCompletion s with e | e
  · rw [e]
  · rw [e, clearConfirmCompletion]
    split
    · exact completeClear_planner_emptied s
    · rfl
    · rfl

theorem exec_jobConfirmCompletion_planner_emptied {s t : State}
    (h : exec .jobConfirmCompletion s = .next t) : t.planner.emptied = s.planner.emptied := by
  cases h
  rcases lineEvent_cases jobConfirmCompletion s with e | e
  · rw [e]
  · rw [e, jobConfirmCompletion]
    split
    · exact completeJob_planner_emptied _ _ s
    · rfl
    · rfl

/-- RESET and both completions keep every setting of the planner (R44). -/
theorem resets_planner_emptied {s t : State}
    (h : exec (.reset (.fields ())) s = .next t ∨ exec .clearConfirmCompletion s = .next t
      ∨ exec .jobConfirmCompletion s = .next t) : t.planner.emptied = s.planner.emptied := by
  rcases h with h | h | h
  · exact exec_reset_planner_emptied h
  · exact exec_clearConfirmCompletion_planner_emptied h
  · exact exec_jobConfirmCompletion_planner_emptied h

/-! ### Refusals -/

/-- An act that comes to a refusal is a refusal in the terms of the claims: the setup latch is emptied
with the answer. -/
theorem refuses_of_act {c : ResultCode} {s t : State} {o : Host.Outcome State Fault Refusal}
    (ho : o = .next t) (ht : t = refuseWith c (emptyLatch s)) : Refuses c s o :=
  ⟨[], by rw [ho, ht, refuseWith_emptyLatch]⟩

/-! ### SET PRODUCT (R27) -/

/-- The model's range check is the one of R27. -/
theorem productInRange_iff (f : ProductFields) : productInRange f = true ↔ ProductFits f := by
  simp only [productInRange, inRange, ProductFits, Bool.and_eq_true, decide_eq_true_eq, Nat.zero_le,
    true_and, and_assoc]

section Product
variable {f : ProductFields} {s : State}

theorem exec_setProduct (h : Listening s) :
    exec (.setProduct (.fields f)) s = .next (setProduct f (emptyLatch s)) :=
  congrArg Host.Outcome.next (hostCommand_listening f setProduct h)

theorem setProduct_of_not_idle (hl : s.line.state ≠ .idle) : setProduct f s = refuseWith .state s :=
  if_pos hl

theorem setProduct_of_not_fits (hl : s.line.state = .idle) (hf : ¬ ProductFits f) :
    setProduct f s = refuseWith .range s := by
  rw [setProduct, if_neg (not_not.mpr hl), if_neg (mt (productInRange_iff f).mp hf)]

theorem setProduct_of_fits (hl : s.line.state = .idle) (hf : ProductFits f) :
    setProduct f s = answer .ok (productBytes f)
      (recompute
        { s with
          planner :=
            { s.planner with product := productOf f, filmMass := filmMassOf (productOf f) } }) := by
  rw [setProduct, if_neg (not_not.mpr hl), if_pos ((productInRange_iff f).mpr hf)]

end Product

/-- Settles O13: each check gives its refusal, and what passes both replaces the settings. -/
theorem setProductReplacesSettings : Obligations.SetProductReplacesSettings := by
  refine ⟨fun f s h => ⟨?notIdle, ?range, ?accepted⟩, rfl, fun s t ht => ?kept⟩
  case notIdle =>
    exact fun hl => refuses_of_act (exec_setProduct h) (setProduct_of_not_idle hl)
  case range =>
    exact fun hl hf => refuses_of_act (exec_setProduct h) (setProduct_of_not_fits hl hf)
  case accepted =>
    intro hl hf
    rw [exec_setProduct h, setProduct_of_fits (s := emptyLatch s) hl hf]
    rfl
  case kept =>
    have e := resets_planner_emptied ht
    exact ⟨(congrArg Planner.product e :), (congrArg Planner.filmMass e :)⟩

/-! ### SET INSERT (R28) -/

/-- The ranges of R28. -/
def InsertFits (f : InsertFields) : Prop :=
  (1 ≤ f.number ∧ f.number ≤ 6) ∧ f.mass ≤ 500 ∧ f.thickness ≤ 100

/-- The model's range check is the one of R28. -/
theorem insertInRange_iff (f : InsertFields) : insertInRange f = true ↔ InsertFits f := by
  simp only [insertInRange, inRange, InsertFits, Bool.and_eq_true, decide_eq_true_eq, Nat.zero_le,
    true_and, and_assoc]

section Insert
variable {f : InsertFields} {s : State}

theorem exec_setInsert (h : Listening s) :
    exec (.setInsert (.fields f)) s = .next (setInsert f (emptyLatch s)) :=
  congrArg Host.Outcome.next (hostCommand_listening f setInsert h)

theorem setInsert_of_not_idle (hl : s.line.state ≠ .idle) : setInsert f s = refuseWith .state s :=
  if_pos hl

theorem setInsert_of_not_fits (hl : s.line.state = .idle) (hf : ¬ InsertFits f) :
    setInsert f s = refuseWith .range s := by
  rw [setInsert, if_neg (not_not.mpr hl), if_neg (mt (insertInRange_iff f).mp hf)]

theorem setInsert_of_fits (hl : s.line.state = .idle) (hf : InsertFits f) :
    setInsert f s = answer .ok (insertBytes f)
      (recompute
        { s with
          planner :=
            { s.planner with
              inserts := s.planner.inserts.set (f.number - 1)
                { mass := f.mass, thickness := f.thickness, required := f.required } } }) := by
  rw [setInsert, if_neg (not_not.mpr hl), if_pos ((insertInRange_iff f).mpr hf)]

end Insert

/-- Settles O14: each check gives its refusal, and what passes both replaces the named insert's
values. -/
theorem setInsertReplacesSettings : Obligations.SetInsertReplacesSettings := by
  refine ⟨fun f s h => ⟨?notIdle, ?range, ?accepted⟩, rfl,
    fun s t ht => (congrArg Planner.inserts (resets_planner_emptied ht) :)⟩
  case notIdle =>
    exact fun hl => refuses_of_act (exec_setInsert h) (setInsert_of_not_idle hl)
  case range =>
    exact fun hl hf => refuses_of_act (exec_setInsert h) (setInsert_of_not_fits hl hf)
  case accepted =>
    intro hl hf
    rw [exec_setInsert h, setInsert_of_fits (s := emptyLatch s) hl hf]
    rfl

/-! ### SET BUNDLE LIMITS (R31) -/

/-- The conversion of Nmax by cases: 0 and what exceeds 256 give 256. -/
theorem nmaxUsed_eq (n : Nat) : nmaxUsed n = if n = 0 ∨ 257 ≤ n then 256 else n := by
  unfold nmaxUsed
  split <;> split <;> omega

/-- The conversion of Mmax by cases. -/
theorem mmaxUsed_eq (m : Nat) :
    mmaxUsed m = if m < 500 then 500 else if 30000 < m then 30000 else m := by
  unfold mmaxUsed bringInto
  split
  · omega
  · split <;> omega

/-- A value is clamped when Nmax exceeds 256 or Mmax lies out of range; an Nmax of 0 is no clamp. -/
theorem limitsClamped_iff (f : BundleLimitFields) :
    limitsClamped f = true ↔ 257 ≤ f.nmax ∨ f.mmax < 500 ∨ 30000 < f.mmax := by
  have hm : mmaxUsed f.mmax ≠ f.mmax ↔ f.mmax < 500 ∨ 30000 < f.mmax := by
    rw [mmaxUsed_eq]
    split
    · omega
    · split <;> omega
  rw [limitsClamped, Bool.or_eq_true, decide_eq_true_eq, bne_iff_ne, hm]
  exact Iff.rfl

section Limits
variable {f : BundleLimitFields} {s : State}

theorem exec_setBundleLimits (h : Listening s) :
    exec (.setBundleLimits (.fields f)) s = .next (setBundleLimits f (emptyLatch s)) :=
  congrArg Host.Outcome.next (hostCommand_listening f setBundleLimits h)

theorem setBundleLimits_at_rest (hl : s.line.state = .idle ∨ s.line.state = .stopped) :
    setBundleLimits f s =
      answer (okOrClamped (limitsClamped f)) (limitBytes (nmaxUsed f.nmax) (mmaxUsed f.mmax))
        { s with
          planner := { s.planner with nmax := nmaxUsed f.nmax, mmax := mmaxUsed f.mmax } } :=
  if_pos hl

theorem setBundleLimits_of_not_at_rest (hi : s.line.state ≠ .idle) (hs : s.line.state ≠ .stopped) :
    setBundleLimits f s = refuseWith .state s :=
  if_neg (not_or.mpr ⟨hi, hs⟩)

end Limits

/-! ### The limits a plan captures (R31, R35) -/

theorem assignRefs_planner (i : Nat) (groups : List (List Record)) :
    ∀ (o : Nat) (s : State), (assignRefs i o groups s).planner = s.planner := by
  induction groups with
  | nil => exact fun _ _ => rfl
  | cons group groups ih => exact fun o s => ih (o + 1) _

/-- The plan written over an entry of the plan table is the one read. -/
theorem planAt_setPlan_same {i : Nat} {s : State} (p : Option Plan)
    (hi : i < s.planner.plans.length) : planAt (setPlan i p s) i = p := by
  simp [planAt, setPlan, List.getD_eq_getElem?_getD, hi]

/-- Whichever kind of plan is made, it stands in its entry with the limits in force. -/
theorem makePlan_captures_limits (i : Nat) (r : Record) {s : State}
    (hi : i < s.planner.plans.length) :
    ∃ p, planAt (makePlan i r s) i = some p ∧ p.nmax = s.planner.nmax ∧ p.mmax = s.planner.mmax := by
  by_cases hr : routeEnds r.route (routeSearch s r) = true
  case pos =>
    rw [makePlan, if_pos hr, planAt, assignRefs_planner]
    exact ⟨_, planAt_setPlan_same _ hi, rfl, rfl⟩
  case neg =>
    rw [makePlan, if_neg hr]
    exact ⟨_, planAt_setPlan_same _ hi, rfl, rfl⟩

/-- Settles O15: the conversions by cases, and the limits that a new plan captures. -/
theorem setBundleLimitsConvertsLimits : Obligations.SetBundleLimitsConvertsLimits := by
  refine ⟨fun f s h => ⟨?atRest, ?notAtRest⟩, fun i r s hi => makePlan_captures_limits i r hi,
    ⟨rfl, rfl⟩, fun s t ht => ?kept⟩
  case atRest =>
    intro hl
    rw [exec_setBundleLimits h, setBundleLimits_at_rest (s := emptyLatch s) hl]
    simp only [← nmaxUsed_eq, ← mmaxUsed_eq, ← limitsClamped_iff]
    rfl
  case notAtRest =>
    exact fun hi hs =>
      refuses_of_act (exec_setBundleLimits h) (setBundleLimits_of_not_at_rest hi hs)
  case kept =>
    have e := resets_planner_emptied ht
    exact ⟨(congrArg Planner.nmax e :), (congrArg Planner.mmax e :)⟩

end Sys2Proof.Machine

/-! PROOF. The division of a COMPLETE plan's members (R36), and O54. -/

namespace Sys2Proof.Machine

/-! ### The target size (R36 steps 1 to 4) -/

theorem ceilDiv_le_iff {n d k : Nat} (hd : 0 < d) : ceilDiv n d ≤ k ↔ n ≤ d * k := by
  rw [ceilDiv, ← Nat.ceilDiv_eq_add_pred_div, ceilDiv_le_iff_le_mul hd]

theorem one_le_ceilDiv {n d : Nat} (hn : 1 ≤ n) (hd : 1 ≤ d) : 1 ≤ ceilDiv n d :=
  (Nat.le_div_iff_mul_le hd).mpr (by omega)

section Target
variable {nmax n : Nat} (mmax m : Nat) (hn : 1 ≤ n) (hx : 1 ≤ nmax)
include hn hx

/-- The count of ordinals that the target size is taken from is at least 1. -/
theorem one_le_ordinalCount : 1 ≤ min n (max (ceilDiv n nmax) (ceilDiv m mmax)) :=
  Nat.le_min.mpr ⟨hn, (one_le_ceilDiv hn hx).trans (Nat.le_max_left _ _)⟩

/-- The target size is at least 1, so that every ordinal takes a member. -/
theorem one_le_targetSize : 1 ≤ targetSize nmax mmax n m :=
  one_le_ceilDiv hn (one_le_ordinalCount mmax m hn hx)

/-- The target size is within Nmax: the members are divided into at least n / Nmax ordinals. -/
theorem targetSize_le_nmax : targetSize nmax mmax n m ≤ nmax := by
  refine (ceilDiv_le_iff (one_le_ordinalCount mmax m hn hx)).mpr ?_
  rcases Nat.le_total n (max (ceilDiv n nmax) (ceilDiv m mmax)) with h | h
  · rw [Nat.min_eq_left h]
    exact Nat.le_mul_of_pos_right n hx
  · rw [Nat.min_eq_right h]
    calc n ≤ nmax * ceilDiv n nmax := (ceilDiv_le_iff hx).mp le_rfl
      _ ≤ nmax * max (ceilDiv n nmax) (ceilDiv m mmax) :=
        Nat.mul_le_mul_left _ (Nat.le_max_left _ _)
      _ = max (ceilDiv n nmax) (ceilDiv m mmax) * nmax := Nat.mul_comm _ _

end Target

/-! ### Filling one ordinal (R36 step 5) -/

/-- The members taken are the next ones, in order. -/
theorem fillOrdinal_prefix (mmax room mass : Nat) (rs : List Record) :
    fillOrdinal mmax room mass rs <+: rs := by
  fun_induction fillOrdinal mmax room mass rs with
  | case1 => exact List.nil_prefix
  | case2 => exact List.nil_prefix
  | case3 room mass r rest hm ih => exact (List.prefix_cons_inj r).mpr ih
  | case4 => exact List.nil_prefix

theorem length_fillOrdinal_le (mmax room mass : Nat) (rs : List Record) :
    (fillOrdinal mmax room mass rs).length ≤ room := by
  fun_induction fillOrdinal mmax room mass rs with
  | case1 => exact Nat.zero_le _
  | case2 => exact Nat.zero_le _
  | case3 room mass r rest hm ih => exact Nat.succ_le_succ ih
  | case4 => exact Nat.zero_le _

theorem massOf_cons (r : Record) (rs : List Record) :
    massOf (r :: rs) = r.nominalMass + massOf rs := List.sum_cons

/-- A member joins only within Mmax. -/
theorem fillOrdinal_mass_le (mmax room mass : Nat) (rs : List Record) :
    fillOrdinal mmax room mass rs = [] ∨ mass + massOf (fillOrdinal mmax room mass rs) ≤ mmax := by
  fun_induction fillOrdinal mmax room mass rs with
  | case1 => exact .inl rfl
  | case2 => exact .inl rfl
  | case3 room mass r rest hm ih =>
    refine .inr ?_
    rw [massOf_cons]
    rcases ih with e | h
    · rw [e]; exact hm
    · omega
  | case4 => exact .inl rfl

/-- The filling ends at the room, at the last member, or before a member that would pass Mmax. -/
theorem fillOrdinal_maximal (mmax room mass : Nat) (rs : List Record) :
    (fillOrdinal mmax room mass rs).length = room
      ∨ (fillOrdinal mmax room mass rs).length = rs.length
      ∨ ∃ next, rs[(fillOrdinal mmax room mass rs).length]? = some next
        ∧ mmax < mass + massOf (fillOrdinal mmax room mass rs) + next.nominalMass := by
  fun_induction fillOrdinal mmax room mass rs with
  | case1 => exact .inr (.inl rfl)
  | case2 => exact .inl rfl
  | case3 room mass r rest hm ih =>
    rw [massOf_cons, ← Nat.add_assoc]
    simpa only [List.length_cons, Nat.succ_eq_add_one, Nat.add_right_cancel_iff,
      List.getElem?_cons_succ] using ih
  | case4 room mass r rest hm => exact .inr (.inr ⟨r, rfl, Nat.lt_of_not_le hm⟩)

/-! ### The first group -/

/-- The members of the next ordinal: the first one left and those that fill the ordinal after it. -/
def firstGroup (nmax mmax : Nat) (r : Record) (rest : List Record) : List Record :=
  r :: fillOrdinal mmax (targetSize nmax mmax (rest.length + 1) (massOf (r :: rest)) - 1)
    r.nominalMass rest

/-- A division is the first group, then the division of the members left. -/
theorem divideMembers_cons (nmax mmax fuel : Nat) (r : Record) (rest : List Record) :
    divideMembers nmax mmax (fuel + 1) (r :: rest) = firstGroup nmax mmax r rest
      :: divideMembers nmax mmax fuel
        ((r :: rest).drop (firstGroup nmax mmax r rest).length) := rfl

theorem divideMembers_nil (nmax mmax fuel : Nat) : divideMembers nmax mmax fuel [] = [] := by
  cases fuel <;> rfl

section FirstGroup
variable (nmax mmax : Nat) (r : Record) (rest : List Record)

theorem firstGroup_eq_take :
    firstGroup nmax mmax r rest = (r :: rest).take (firstGroup nmax mmax r rest).length :=
  List.prefix_iff_eq_take.mp ((List.prefix_cons_inj r).mpr (fillOrdinal_prefix _ _ _ _))

/-- What the first group leaves is less than what there was. -/
theorem length_drop_firstGroup_le :
    ((r :: rest).drop (firstGroup nmax mmax r rest).length).length ≤ rest.length := by
  rw [List.length_drop, List.length_cons, firstGroup, List.length_cons]
  omega

/-- The first group passes Mmax only as one member alone. -/
theorem firstGroup_mass :
    massOf (firstGroup nmax mmax r rest) ≤ mmax ∨ (firstGroup nmax mmax r rest).length = 1 := by
  rw [firstGroup, massOf_cons r (fillOrdinal _ _ _ _)]
  rcases fillOrdinal_mass_le mmax _ r.nominalMass rest with e | h
  · exact .inr (by rw [e]; rfl)
  · exact .inl h

variable {nmax} (hx : 1 ≤ nmax)
include hx

theorem length_firstGroup_le_targetSize : (firstGroup nmax mmax r rest).length
    ≤ targetSize nmax mmax (rest.length + 1) (massOf (r :: rest)) := by
  have hs := one_le_targetSize mmax (massOf (r :: rest)) (Nat.le_add_left 1 rest.length) hx
  have hf := length_fillOrdinal_le mmax
    (targetSize nmax mmax (rest.length + 1) (massOf (r :: rest)) - 1) r.nominalMass rest
  rw [firstGroup, List.length_cons]
  omega

/-- The first group ends at its target size, at the last member, or before a member that would pass
Mmax. -/
theorem firstGroup_maximal :
    (firstGroup nmax mmax r rest).length
        = targetSize nmax mmax (rest.length + 1) (massOf (r :: rest))
      ∨ (firstGroup nmax mmax r rest).length = (r :: rest).length
      ∨ ∃ next, (r :: rest)[(firstGroup nmax mmax r rest).length]? = some next
        ∧ mmax < massOf (firstGroup nmax mmax r rest) + next.nominalMass := by
  have hs := one_le_targetSize mmax (massOf (r :: rest)) (Nat.le_add_left 1 rest.length) hx
  rw [firstGroup, massOf_cons r (fillOrdinal _ _ _ _), List.length_cons, List.length_cons,
    List.getElem?_cons_succ]
  rcases fillOrdinal_maximal mmax
    (targetSize nmax mmax (rest.length + 1) (massOf (r :: rest)) - 1) r.nominalMass rest
    with hr | hl | hm
  · exact .inl (by omega)
  · exact .inr (.inl (congrArg Nat.succ hl))
  · exact .inr (.inr hm)

end FirstGroup

/-! ### The groups -/

/-- What R36 asks of every group: it is not empty, holds at most Nmax members, and passes Mmax only as
one member alone. -/
def GroupFits (nmax mmax : Nat) (g : List Record) : Prop :=
  g ≠ [] ∧ g.length ≤ nmax ∧ (massOf g ≤ mmax ∨ g.length = 1)

theorem firstGroup_fits {nmax : Nat} (mmax : Nat) (hx : 1 ≤ nmax) (r : Record)
    (rest : List Record) : GroupFits nmax mmax (firstGroup nmax mmax r rest) :=
  ⟨List.cons_ne_nil _ _,
    (length_firstGroup_le_targetSize mmax r rest hx).trans
      (targetSize_le_nmax mmax _ (Nat.le_add_left 1 rest.length) hx),
    firstGroup_mass nmax mmax r rest⟩

/-- Every group of a division fits. -/
theorem divideMembers_fits {nmax : Nat} (mmax : Nat) (hx : 1 ≤ nmax) (fuel : Nat) :
    ∀ rs, ∀ g ∈ divideMembers nmax mmax fuel rs, GroupFits nmax mmax g := by
  induction fuel with
  | zero => exact fun _ _ hg => absurd hg List.not_mem_nil
  | succ fuel ih =>
    intro rs g hg
    cases rs with
    | nil => exact absurd hg List.not_mem_nil
    | cons r rest =>
      rw [divideMembers_cons] at hg
      rcases List.mem_cons.mp hg with rfl | hg
      · exact firstGroup_fits mmax hx r rest
      · exact ih _ g hg

/-- With fuel for every member, every member stands in one group, in order. -/
theorem flatten_divideMembers (nmax mmax fuel : Nat) :
    ∀ rs : List Record, rs.length ≤ fuel → (divideMembers nmax mmax fuel rs).flatten = rs := by
  induction fuel with
  | zero => exact fun rs h => (List.eq_nil_of_length_eq_zero (Nat.le_zero.mp h)).symm
  | succ fuel ih =>
    intro rs h
    cases rs with
    | nil => rfl
    | cons r rest =>
      have hd := (length_drop_firstGroup_le nmax mmax r rest).trans (Nat.le_of_succ_le_succ h)
      calc (divideMembers nmax mmax (fuel + 1) (r :: rest)).flatten
          = firstGroup nmax mmax r rest ++ (r :: rest).drop (firstGroup nmax mmax r rest).length := by
            rw [divideMembers_cons, List.flatten_cons, ih _ hd]
        _ = (r :: rest).take (firstGroup nmax mmax r rest).length
              ++ (r :: rest).drop (firstGroup nmax mmax r rest).length := by
            rw [← firstGroup_eq_take]
        _ = r :: rest := List.take_append_drop _ _

/-- Two amounts of fuel that both reach every member give the same division. -/
theorem divideMembers_fuel (nmax mmax fuel : Nat) :
    ∀ (fuel' : Nat) (rs : List Record), rs.length ≤ fuel → rs.length ≤ fuel' →
      divideMembers nmax mmax fuel rs = divideMembers nmax mmax fuel' rs := by
  induction fuel with
  | zero =>
    intro fuel' rs h _
    rw [List.eq_nil_of_length_eq_zero (Nat.le_zero.mp h), divideMembers_nil, divideMembers_nil]
  | succ fuel ih =>
    intro fuel' rs h h'
    cases rs with
    | nil => rw [divideMembers_nil, divideMembers_nil]
    | cons r rest =>
      obtain ⟨fuel', rfl⟩ := Nat.exists_eq_add_of_le' (Nat.one_le_of_lt h')
      have hd := length_drop_firstGroup_le nmax mmax r rest
      rw [divideMembers_cons, divideMembers_cons, ih fuel' _
        (hd.trans (Nat.le_of_succ_le_succ h)) (hd.trans (Nat.le_of_succ_le_succ h'))]

/-- The ordinal of a group: its members counted and weighed, OVERMASS exactly beyond Mmax, final and
WAITING (R35, R36, R38). -/
theorem ordinalOf_spec (mmax : Nat) (g : List Record) :
    (ordinalOf mmax g).count = g.length ∧ (ordinalOf mmax g).mass = massOf g
      ∧ ((ordinalOf mmax g).overmass = true ↔ mmax < massOf g)
      ∧ (ordinalOf mmax g).final = true ∧ (ordinalOf mmax g).status = .waiting :=
  ⟨rfl, rfl, decide_eq_true_iff, rfl, rfl⟩

/-- Settles O54: the first group by the filling of one ordinal, every group by induction on the
division. -/
theorem completePlanDividesItsMembers : Obligations.CompletePlanDividesItsMembers := by
  intro nmax mmax rs hx _ hne
  refine ⟨flatten_divideMembers nmax mmax rs.length rs le_rfl, fun g hg => ?each, ?first⟩
  case each =>
    obtain ⟨hg0, hgn, hgm⟩ := divideMembers_fits mmax hx rs.length rs g hg
    exact ⟨hg0, hgn, hgm, ordinalOf_spec mmax g⟩
  case first =>
    obtain ⟨r, rest, rfl⟩ := List.exists_cons_of_ne_nil hne
    refine ⟨firstGroup nmax mmax r rest, rfl, firstGroup_eq_take nmax mmax r rest,
      length_firstGroup_le_targetSize mmax r rest hx,
      targetSize_le_nmax mmax _ (Nat.le_add_left 1 rest.length) hx,
      firstGroup_maximal mmax r rest hx, ?_⟩
    rw [List.length_cons, divideMembers_cons, List.tail_cons]
    exact divideMembers_fuel nmax mmax _ _ _ (length_drop_firstGroup_le nmax mmax r rest)
      List.length_drop.le

end Sys2Proof.Machine

/-! PROOF. RUN (R54): the line unit taken from a standstill, the drain test that entering DRAINING makes,
and O25. -/

namespace Sys2Proof.Machine

/-! ### The line unit leaves a standstill -/

/-- With DRIVE-ON off no pause is pending and no pitch is timed (R49, R52). -/
theorem LineSafe.untimed_of_not_moving {l : LineUnit} (h : LineSafe l) (hm : l.state.moving = false) :
    l.pause = false ∧ l.period = none ∧ l.sinceMark = none := by
  obtain ⟨-, -, hpause, hperiod, hmark, -, -, -⟩ := h
  simp only [hm, Bool.false_eq_true, imp_false, Bool.not_eq_true, Option.isSome_eq_false_iff,
    Option.isNone_iff_eq_none] at hpause hperiod hmark
  exact ⟨hpause, hperiod, hmark⟩

/-- When DRIVE-ON turns on, the pitch period is absent and all else is kept (R49). -/
theorem LineSafe.enter_moving {l : LineUnit} {t : LineState} (h : LineSafe l)
    (hm : l.state.moving = false) (ht : t.moving = true) :
    l.enter t = { l with state := t, period := none } := by
  obtain ⟨hpause, -, hmark⟩ := h.untimed_of_not_moving hm
  have hh : t ≠ .holding := fun e => by rw [e] at ht; exact absurd ht (by decide)
  simp [LineUnit.enter, hm, ht, hh, hpause, hmark]

/-- A standing line that goes to HOLDING starts the hold timer and keeps all else (R60). -/
theorem LineSafe.enter_holding {l : LineUnit} (h : LineSafe l) (hm : l.state.moving = false)
    (hh : l.state ≠ .holding) :
    l.enter .holding = { l with state := .holding, holdTimer := MsTimer.zero } := by
  obtain ⟨hpause, -, -⟩ := h.untimed_of_not_moving hm
  have ht : LineState.holding.moving = false := rfl
  simp [LineUnit.enter, hm, ht, hh, hpause]

/-- Outside FAULTED there is no cause for RUN to empty (R62). -/
theorem clearCauses_of_not_faulted {s : State} (h : LineSafe s.line) (hf : s.line.state ≠ .faulted) :
    clearCauses s = s := by
  have hfirst := h.no_first hf
  obtain ⟨-, hfurther, -⟩ := h
  simp only [clearCauses, ← hfirst, ← hfurther hf]

theorem HoldSet.isEmpty_iff (h : HoldSet) : h.isEmpty = true ↔ h = HoldSet.none := by
  obtain ⟨printerWait, pocketWait⟩ := h
  simp [HoldSet.isEmpty, HoldSet.none]

/-! ### The drain test -/

/-- The model's test of the drain conditions is the one of R57. -/
theorem drainConditions_iff (s : State) : drainConditions s = true ↔ Drained s := by
  have remake (k : Nat) : isRemake s k = false ↔ ∀ r, findRecord s k = some r → r.kind ≠ .remake := by
    cases e : findRecord s k <;> simp [isRemake, e]
  simp [drainConditions, Drained, remake, anyEjecting, and_assoc]

theorem drainTest_of_not_draining {s : State} (h : s.line.state ≠ .draining) : drainTest s = s :=
  if_neg fun k => h k.1

/-- The drain conditions do not look at the line unit. -/
theorem drainTest_withLine_of_not_drained {s : State} (l : LineUnit) (h : ¬ Drained s) :
    drainTest { s with line := l } = { s with line := l } :=
  if_neg fun k => h ((drainConditions_iff { s with line := l }).mp k.2)

theorem drainTest_withLine_of_drained {s : State} {l : LineUnit} (hl : l.state = .draining)
    (h : Drained s) : drainTest { s with line := l } = completeDrain { s with line := l } :=
  if_pos ⟨hl, (drainConditions_iff { s with line := l }).mpr h⟩

/-- A drain completion takes the line unit to STOPPED with its drain over, whatever the blocks do. -/
theorem completeDrain_line (s : State) :
    (completeDrain s).line = LineUnit.enter .stopped { s.line with drain := false } := by
  rw [completeDrain, endDrain, stopLine, (applyPending_step _).line, ← (drainBlocks_step s).line]
  rfl

/-! ### RUN from a standstill -/

section Run
variable {s : State}

theorem exec_run (h : Listening s) :
    exec (.run (.fields ())) s = .next (runLine (emptyLatch s)) :=
  congrArg Host.Outcome.next (hostCommand_listening () (fun _ => runLine) h)

theorem runLine_idle (hs : s.line.state = .idle) : runLine s = refuseWith .state s := by
  simp only [runLine, hs]

theorem runLine_moving (hs : s.line.state = .running ∨ s.line.state = .draining) :
    runLine s = answer .ok [] { s with line := { s.line with pause := false } } := by
  rcases hs with hs | hs <;> simp only [runLine, hs]

theorem runLine_holding (hs : s.line.state = .holding) : runLine s = answer .ok [] s := by
  simp only [runLine, hs]

theorem runLine_faultInput (hs : s.line.state = .stopped ∨ s.line.state = .faulted)
    (hi : anyFaultInput s = true) : runLine s = refuseWith .state s := by
  rcases hs with hs | hs <;> simp only [runLine, hs, hi, if_true]

/-- STOPPED and FAULTED start alike, as STOPPED has no causes to empty. -/
theorem runLine_start (hl : LineSafe s.line) (hs : s.line.state = .stopped ∨ s.line.state = .faulted)
    (hi : anyFaultInput s = false) :
    runLine s = answer .ok [] (startOrHold (clearCauses s)) := by
  rcases hs with hs | hs
  · rw [clearCauses_of_not_faulted hl (by rw [hs]; decide)]
    simp [runLine, hs, hi]
  · simp [runLine, hs, hi]

theorem not_moving_of_standing (hs : s.line.state = .stopped ∨ s.line.state = .faulted) :
    s.line.state.moving = false := by
  rcases hs with hs | hs <;> rw [hs] <;> rfl

/-- A hold cause stands: the line goes to HOLDING. -/
theorem startOrHold_held (hl : LineSafe s.line)
    (hs : s.line.state = .stopped ∨ s.line.state = .faulted) (hh : s.holds.causes ≠ HoldSet.none) :
    startOrHold (clearCauses s) =
      { s with
        line :=
          { s.line with
            state := .holding, holdTimer := MsTimer.zero, first := none, further := 0 } } := by
  have hne : s.line.state ≠ .holding := by rcases hs with hs | hs <;> rw [hs] <;> decide
  have he := hl.enter_holding (not_moving_of_standing hs) hne
  rw [startOrHold, clearCauses_holds, if_neg (mt (HoldSet.isEmpty_iff _).mp hh)]
  calc enterLine .holding (clearCauses s)
      = { s with line := { s.line.enter .holding with first := none, further := 0 } } := rfl
    _ = _ := by rw [he]

/-- No hold cause stands: the line goes to the moving state, and the drain test is made. -/
theorem startOrHold_clear (hl : LineSafe s.line)
    (hs : s.line.state = .stopped ∨ s.line.state = .faulted) (hh : s.holds.causes = HoldSet.none) :
    startOrHold (clearCauses s) = drainTest
      { s with
        line :=
          { s.line with state := movingState s, period := none, first := none, further := 0 } } := by
  have ht : (movingState s).moving = true := by unfold movingState; split <;> rfl
  have he := hl.enter_moving (not_moving_of_standing hs) ht
  rw [startOrHold, clearCauses_holds, if_pos ((HoldSet.isEmpty_iff _).mpr hh)]
  calc startMoving (clearCauses s)
      = drainTest { s with
          line := { s.line.enter (movingState s) with first := none, further := 0 } } := rfl
    _ = _ := by rw [he]

end Run

/-- Settles O25: RUN by line state; a start from a standstill is a change of line state from
`startOrHold_held` or `startOrHold_clear`, and the drain test decides the rest. -/
theorem runByLineState : Obligations.RunByLineState := by
  intro s h hl
  have start (hs : s.line.state = .stopped ∨ s.line.state = .faulted)
      (hi : anyFaultInput s = false) : exec (.run (.fields ())) s
        = .next (answer .ok [] (startOrHold (clearCauses (emptyLatch s)))) := by
    rw [exec_run h, runLine_start (s := emptyLatch s) hl hs hi]
  refine ⟨?idle, ?faultInput, ?held, ?running, ?draining, ?moving, ?holding⟩
  case idle => exact fun hs => refuses_of_act (exec_run h) (runLine_idle hs)
  case faultInput => exact fun hs hi => refuses_of_act (exec_run h) (runLine_faultInput hs hi)
  case held =>
    intro hs hi hh
    rw [start hs hi, startOrHold_held (s := emptyLatch s) hl hs hh]
    rfl
  case running =>
    intro hs hi hh hd
    have hm : movingState (emptyLatch s) = .running := if_neg (Bool.eq_false_iff.mp hd)
    rw [start hs hi, startOrHold_clear (s := emptyLatch s) hl hs hh, hm,
      drainTest_of_not_draining (by simp)]
    rfl
  case draining =>
    intro hs hi hh hd
    have hm : movingState (emptyLatch s) = .draining := if_pos hd
    rw [start hs hi, startOrHold_clear (s := emptyLatch s) hl hs hh, hm]
    refine ⟨fun hn => ?undrained, fun hn => ⟨_, rfl, ?drained⟩⟩
    case undrained =>
      rw [drainTest_withLine_of_not_drained (s := emptyLatch s) _ hn]
      rfl
    case drained =>
      rw [drainTest_withLine_of_drained (s := emptyLatch s) rfl hn, answer_line, completeDrain_line]
      refine ⟨rfl, rfl, rfl, ?_⟩
      rw [answer, (completeDrain_motion _ rfl).host]
      rfl
  case moving =>
    intro hs
    rw [exec_run h, runLine_moving (s := emptyLatch s) hs]
    rfl
  case holding =>
    intro hs
    rw [exec_run h, runLine_holding (s := emptyLatch s) hs]
    rfl

end Sys2Proof.Machine

/-! PROOF. READ BUNDLE (R150): the bundle it names, the bytes of the bundle record readout
(section 10.6), and O34. -/

namespace Sys2Proof.Machine

/-! ### The bundle record readout -/

/-- A number written in `n` bytes takes `n` bytes (R196). -/
@[simp] theorem length_le (n v : Nat) : (le n v).length = n := by
  induction n generalizing v with
  | zero => rfl
  | succ n ih => rw [le, List.length_cons, ih]

/-- Bundle states are numbered in the order of R132. -/
theorem BundleState.value_eq_idxOf (x : BundleState) :
    x.value = [BundleState.forming, .filling, .held, .ejecting, .closed].idxOf x := by
  cases x <;> rfl

/-- Close reasons are numbered in the order of R132. -/
theorem CloseReason.value_eq_idxOf (x : CloseReason) :
    x.value = [CloseReason.planned, .holdExpired, .forced, .drain, .emptied].idxOf x := by
  cases x <;> rfl

/-- An absent pocket is sent as zeros, as pocket A is. -/
theorem pocketByte_eq (k : Option PocketId) :
    leOpt 1 (k.map pocketValue) = le 1 (if k = some .b then 1 else 0) := by
  rcases k with _ | k
  · rfl
  · cases k <;> rfl

theorem length_bundleReadout (b : Bundle) : (bundleReadout b).length = 28 := by
  simp [bundleReadout, leOpt]

/-! ### The bundle that READ BUNDLE names -/

section Named
variable {s : State} {n m : Nat} {rest : List Nat}

theorem namedBundle_of_ne_zero (hn : n ≠ 0) : namedBundle s n = findBundle s n := if_neg hn

theorem namedBundle_zero_of_nil (hc : s.stacker.closedOrder = []) : namedBundle s 0 = none := by
  simp [namedBundle, hc]

/-- Number 0 names the oldest CLOSED bundle. -/
theorem namedBundle_zero_of_cons (hc : s.stacker.closedOrder = m :: rest) :
    namedBundle s 0 = findBundle s m := by
  simp [namedBundle, hc]

theorem namedBundle_eq_none
    (h : (n = 0 ∧ s.stacker.closedOrder = []) ∨ (n ≠ 0 ∧ findBundle s n = none)) :
    namedBundle s n = none := by
  rcases h with ⟨rfl, hc⟩ | ⟨hz, hf⟩
  · exact namedBundle_zero_of_nil hc
  · rw [namedBundle_of_ne_zero hz, hf]

/-- The bundle that R150 names, by its number or as the oldest CLOSED one, is the model's. -/
theorem namedBundle_of_named {b : Bundle}
    (h : (n ≠ 0 ∧ findBundle s n = some b)
      ∨ (n = 0 ∧ ∃ m rest, s.stacker.closedOrder = m :: rest ∧ findBundle s m = some b)) :
    namedBundle s n = some b := by
  rcases h with ⟨hz, hf⟩ | ⟨rfl, m, rest, hc, hf⟩
  · rw [namedBundle_of_ne_zero hz, hf]
  · rw [namedBundle_zero_of_cons hc, hf]

end Named

/-! ### The command -/

section ReadBundle
variable {f : BundleReadFields} {b : Bundle} {s : State}

theorem exec_readBundle (h : Listening s) :
    exec (.readBundle (.fields f)) s = .next (readBundle f (emptyLatch s)) :=
  congrArg Host.Outcome.next (hostCommand_listening f readBundle h)

theorem readBundle_of_none (hb : namedBundle s f.bundle = none) :
    readBundle f s = refuseWith .notFound s := by
  rw [readBundle, hb]

theorem readBundle_beyond (hb : namedBundle s f.bundle = some b) (hf : b.stackedCount < f.first) :
    readBundle f s = refuseWith .range s := by
  simp only [readBundle, hb, if_pos hf]

theorem readBundle_within (hb : namedBundle s f.bundle = some b) (hf : f.first ≤ b.stackedCount) :
    readBundle f s = answer .ok (bundlePayload b f.first) s := by
  simp only [readBundle, hb, if_neg (not_lt.mpr hf)]

end ReadBundle

/-- Settles O34: READ BUNDLE by the bundle it names and by the first index, and the readout, whose close
reason and hold start pitch are each absent or present. -/
theorem readBundleReturnsPage : Obligations.ReadBundleReturnsPage := by
  refine ⟨fun f s h => ⟨fun hn => ?notFound, fun b hb => ⟨fun hf => ?range, fun hf => ?page⟩⟩,
    fun b => ⟨?layout, length_bundleReadout b⟩⟩
  case notFound =>
    exact refuses_of_act (exec_readBundle h)
      (readBundle_of_none (s := emptyLatch s) (namedBundle_eq_none hn))
  case range =>
    exact refuses_of_act (exec_readBundle h)
      (readBundle_beyond (s := emptyLatch s) (namedBundle_of_named hb) hf)
  case page =>
    rw [exec_readBundle h, readBundle_within (s := emptyLatch s) (namedBundle_of_named hb) hf]
    rfl
  case layout =>
    rw [bundleReadout, pocketByte_eq, BundleState.value_eq_idxOf]
    cases b.reason <;> cases b.holdStart <;>
      simp only [leOpt, Option.map, Option.getD, CloseReason.value_eq_idxOf]

end Sys2Proof.Machine

/-! PROOF. The setups of the two confirms (R174, R177): the values that JOB SETUP uses and what they
become at the confirm, the conditions of a clear, and O20 and O24. -/

namespace Sys2Proof.Machine

/-! ### The values of a job setup (R174) -/

/-- The conversion of the low-water value by cases. -/
theorem jobUsed_lowWater (f : JobFields) :
    (jobUsed f).lowWater = if 511 < f.lowWater then 511 else f.lowWater := by
  show min 511 f.lowWater = _
  split <;> omega

/-- The conversion of the start value by cases. -/
theorem jobUsed_start (f : JobFields) :
    (jobUsed f).start = if f.start < 4 then 4 else if 32 < f.start then 32 else f.start := by
  show min 32 (max 4 f.start) = _
  split
  · omega
  · split <;> omega

/-- A job setup is converted when one of its two values is. -/
theorem jobUsed_ne_iff (f : JobFields) :
    jobUsed f ≠ f ↔ (jobUsed f).lowWater ≠ f.lowWater ∨ (jobUsed f).start ≠ f.start := by
  rw [← not_and_or, ← JobFields.mk.injEq]

/-! ### JOB SETUP -/

section JobSetup
variable {f : JobFields} {s : State}

theorem exec_jobSetup (h : Listening s) :
    exec (.jobSetup (.fields f)) s = .next (jobSetup f (emptyLatch s)) :=
  congrArg Host.Outcome.next (hostCommand_listening f jobSetup h)

theorem jobSetup_refused (hl : s.line.state ≠ .idle ∨ s.geometry.isSet = false) :
    jobSetup f s = refuseWith .state s :=
  if_pos hl

theorem jobSetup_accepted (hl : s.line.state = .idle) (hg : s.geometry.isSet = true) :
    jobSetup f s = answer (okOrClamped (jobUsed f ≠ f)) (jobBytes (jobUsed f))
      (fillLatch (.job (jobUsed f).lowWater (jobUsed f).start) s) :=
  if_neg (by simp [hl, hg])

end JobSetup

/-! ### The setup in force after the completion of JOB CONFIRM (R176) -/

section Completion
variable {s : State} {low start : Nat}

/-- A change of line state keeps the lead range: the pending unit settings that it applies are no
setting of the carrier unit. -/
theorem stopLine_lead_range (l : LineState) (s : State) :
    (stopLine l s).carrier.lmin = s.carrier.lmin ∧ (stopLine l s).carrier.lmax = s.carrier.lmax :=
  have e := applyPending_step (enterLine l s)
  ⟨by rw [stopLine, e.lmin, enterLine_carrier], by rw [stopLine, e.lmax, enterLine_carrier]⟩

theorem completeJob_lowWater : (completeJob low start s).queue.lowWater = low := rfl

theorem completeJob_start : (completeJob low start s).carrier.start = start := rfl

/-- Lq is the start value brought into the range that stood before the completion. -/
theorem completeJob_lq : (completeJob low start s).carrier.lq
    = min s.carrier.lmax (max s.carrier.lmin start) := by
  obtain ⟨hmin, hmax⟩ := stopLine_lead_range .stopped { s with tracking := Tracking.initial }
  simp only [completeJob, jobBlocks, Carrier.restart, Carrier.forget, bringInto, hmin, hmax]

theorem exec_jobConfirmCompletion (hr : s.inputs.reset = false)
    (ho : s.host.operation = some (.jobConfirm low start)) :
    exec .jobConfirmCompletion s = .next (completeJob low start s) := by
  have e : jobConfirmCompletion s = completeJob low start s := by
    simp only [jobConfirmCompletion, ho]
  exact congrArg Host.Outcome.next ((lineEvent_taken _ hr).trans e)

end Completion

/-- Settles O20: the refusal, the converted values in the latch, and what the completion of the confirm
puts in force. -/
theorem jobSetupFillsLatch : Obligations.JobSetupFillsLatch := by
  refine ⟨fun f s h => ⟨?refused, ?accepted⟩, fun s low start hr ho => ?inForce⟩
  case refused =>
    exact fun hl => refuses_of_act (exec_jobSetup h) (jobSetup_refused (s := emptyLatch s) hl)
  case accepted =>
    intro hl hg
    rw [exec_jobSetup h, jobSetup_accepted (s := emptyLatch s) hl hg]
    simp only [← jobUsed_lowWater, ← jobUsed_start, ← jobUsed_ne_iff, okOrClamped, decide_eq_true_eq]
    rfl
  case inForce =>
    exact ⟨_, exec_jobConfirmCompletion hr ho, completeJob_lowWater, completeJob_start,
      completeJob_lq⟩

/-! ### The conditions of a clear (R177) -/

/-- The model's test of the conditions of a clear is the one of R177. -/
theorem clearable_iff (s : State) : clearable s = true ↔ Clearable s := by
  simp [clearable, Clearable, anyEjecting, and_assoc]

/-! ### CLEAR SETUP -/

section ClearSetup
variable {s : State}

theorem exec_clearSetup (h : Listening s) :
    exec (.clearSetup (.fields ())) s = .next (clearSetup (emptyLatch s)) :=
  congrArg Host.Outcome.next (hostCommand_listening () (fun _ => clearSetup) h)

theorem clearSetup_accepted (hc : Clearable s) :
    clearSetup s = answer .ok [] (fillLatch .clear s) :=
  if_pos ((clearable_iff s).mpr hc)

theorem clearSetup_refused (hc : ¬ Clearable s) : clearSetup s = refuseWith .state s :=
  if_neg (mt (clearable_iff s).mp hc)

end ClearSetup

/-- Settles O24: the conditions do not look at the latch, which is emptied before they are tested. -/
theorem clearSetupChecksConditions : Obligations.ClearSetupChecksConditions := by
  refine fun s h => ⟨fun hc => ?accepted, fun hc => ?refused⟩
  case accepted =>
    rw [exec_clearSetup h, clearSetup_accepted (s := emptyLatch s) hc]
    rfl
  case refused =>
    exact refuses_of_act (exec_clearSetup h) (clearSetup_refused (s := emptyLatch s) hc)

end Sys2Proof.Machine

/-! PROOF. What the blocks' operations promise beside `BlockStep`: the relations of the bundle and plan
tables and the five settings of the carrier unit that no lead bounds. -/

namespace Sys2Proof.Machine

/-! The lemmas of this part are elaborated one after the other, as those of the frames are: elaborated at
once they wait for one another in so many threads that a memory limit can stop the compile. -/
set_option Elab.async false

/-- The settings of the carrier unit beside its lead range (R103, R174). -/
def Carrier.steady (c : Carrier) : Nat × Nat × Nat × Nat × Nat :=
  (c.start, c.upStep, c.downStep, c.waitThreshold, c.marginThreshold)

/-- What every operation promises of the bundle table, the plan table and the carrier unit's settings. -/
structure StockStep (s t : State) : Prop where
  bundles : BundleSafe s → BundleSafe t := by exact id
  steady : t.carrier.steady = s.carrier.steady := by rfl

theorem StockStep.refl (s : State) : StockStep s s := {}

theorem StockStep.trans {s t u : State} (h : StockStep s t) (k : StockStep t u) : StockStep s u where
  bundles := fun b => k.bundles (h.bundles b)
  steady := k.steady.trans h.steady

theorem StockStep.foldl {α : Type} (f : State → α → State) (h : ∀ s a, StockStep s (f s a))
    (l : List α) : ∀ s, StockStep s (l.foldl f s) := by
  induction l with
  | nil => exact StockStep.refl
  | cons a l ih => exact fun s => (h s a).trans (ih _)

theorem StockStep.ite {s t u : State} (c : Prop) [Decidable c] (h : c → StockStep s t)
    (k : ¬c → StockStep s u) : StockStep s (if c then t else u) := by
  split
  · exact h ‹_›
  · exact k ‹_›

/-- No bundle number is added, and the plan table keeps its length. -/
theorem BundleSafe.of_sublist {s t : State} (h : BundleSafe s)
    (hb : (t.stacker.bundles.map (fun b => b.number)).Sublist (s.stacker.bundles.map (fun b => b.number)))
    (hp : t.planner.plans.length = s.planner.plans.length) : BundleSafe t := by
  obtain ⟨hn, hl, hq⟩ := h
  exact ⟨hn.sublist hb, le_trans (by simpa using hb.length_le) hl, hp.trans hq⟩

theorem BundleSafe.of_eq {s t : State} (h : BundleSafe s)
    (hb : t.stacker.bundles = s.stacker.bundles)
    (hp : t.planner.plans.length = s.planner.plans.length) : BundleSafe t :=
  h.of_sublist (by rw [hb]) hp

/-- Bundle records changed otherwise than in their numbers. -/
theorem map_number {f : Bundle → Bundle} (hf : ∀ b, (f b).number = b.number) (bs : List Bundle) :
    (bs.map f).map (fun b => b.number) = bs.map (fun b => b.number) := by
  simp [List.map_map, Function.comp_def, hf]

/-! ### The record store, the queue and the pieces -/

theorem mapRecords_stock (f : Record → Record) (s : State) : StockStep s (mapRecords f s) := {}

theorem updateRecord_stock (k : Nat) (f : Record → Record) (s : State) :
    StockStep s (updateRecord k f s) := {}

theorem freeRecord_stock (k : Nat) (s : State) : StockStep s (freeRecord k s) := {}

theorem updateBundle_numbers (n : Nat) {f : Bundle → Bundle} (hf : ∀ b, (f b).number = b.number)
    (s : State) : (updateBundle n f s).stacker.bundles.map (fun b => b.number)
      = s.stacker.bundles.map (fun b => b.number) :=
  map_number (fun b => by split <;> simp [hf]) _

theorem updateBundle_stock (n : Nat) (f : Bundle → Bundle) (s : State)
    (hf : ∀ b, (f b).number = b.number := by intro b; rfl) : StockStep s (updateBundle n f s) :=
  { bundles := fun h => h.of_sublist (by rw [updateBundle_numbers n hf]) rfl }

theorem updateUnit_stock (u : Nat) (f : TimingUnit → TimingUnit) (s : State) :
    StockStep s (updateUnit u f s) := {}

theorem eraseBundle_stock (n : Nat) (s : State) : StockStep s (eraseBundle n s) :=
  { bundles := fun h => h.of_sublist (List.filter_sublist.map _) rfl }

theorem freeRecords_stock (ks : List Nat) (s : State) : StockStep s (freeRecords ks s) :=
  StockStep.foldl _ (fun s k => freeRecord_stock k s) ks s

theorem requeue_stock (k : Nat) (m : Kind) (s : State) : StockStep s (requeue k m s) := by
  unfold requeue
  dsimp only
  refine StockStep.trans ?_ (updateRecord_stock _ _ _)
  exact {}

theorem mapPieces_stock (f : Piece → Piece) (s : State) : StockStep s (mapPieces f s) := {}

theorem updatePiece_stock (n : BitVec 16) (f : Piece → Piece) (s : State) :
    StockStep s (updatePiece n f s) := {}

theorem removePiece_stock (n : BitVec 16) (s : State) : StockStep s (removePiece n s) := {}

theorem recordDefect_stock (n : BitVec 16) (c : DefectCause) (d : DefectStation) (s : State) :
    StockStep s (recordDefect n c d s) := {}

theorem passStep_stock (n : BitVec 16) (g : Stage) (s : State) : StockStep s (passStep n g s) := {}

theorem setPlan_stock (i : Nat) (p : Option Plan) (s : State) : StockStep s (setPlan i p s) :=
  { bundles := fun h => h.of_eq rfl (by simp [setPlan]) }

theorem updateOrdinal_stock (ref : PlanRef) (f : Ordinal → Ordinal) (s : State) :
    StockStep s (updateOrdinal ref f s) := by
  unfold updateOrdinal
  split
  · exact StockStep.refl s
  · exact setPlan_stock _ _ s

theorem setEjectTimer_stock (p : PocketId) (t : EjectTimer) (s : State) :
    StockStep s (setEjectTimer p t s) := by cases p <;> exact {}

theorem enterException_stock (k : Nat) (d : Disposition) (c : Option DefectCause)
    (p : Option (BitVec 16)) (s : State) : StockStep s (enterException k d c p s) := by
  unfold enterException
  dsimp only
  refine StockStep.trans ?_ (updateRecord_stock _ _ _)
  exact {}

theorem clearPocketWait_stock (s : State) : StockStep s (clearPocketWait s) := {}
theorem raisePocketWait_stock (s : State) : StockStep s (raisePocketWait s) := {}
theorem clearPrinterWait_stock (s : State) : StockStep s (clearPrinterWait s) := {}
theorem raisePrinterWait_stock (s : State) : StockStep s (raisePrinterWait s) := {}

theorem giveOrder_stock (u : Nat) (s : State) : StockStep s (giveOrder u s) :=
  updateUnit_stock u _ s

/-! ### Bundles and pockets -/

theorem clearRequest_stock (s : State) : StockStep s (clearRequest s) := {}

theorem reserve_stock (p : PocketId) (n : Nat) (s : State) : StockStep s (reserve p n s) := by
  have h : StockStep s { s with stacker := { s.stacker with lastReserved := some p } } := {}
  have h1 := h.trans (updateBundle_stock n (fun b => { b with pocket := some p }) _)
  exact StockStep.ite _ (fun _ => h1.trans (clearRequest_stock _)) (fun _ => h1)

theorem answerRequest_stock (s : State) : StockStep s (answerRequest s) := by
  unfold answerRequest
  split
  · exact reserve_stock _ _ s
  · exact StockStep.refl s

theorem lateUnmade_stock (k : Nat) (s : State) : StockStep s (lateUnmade k s) := by
  unfold lateUnmade
  exact StockStep.ite _ (fun _ => enterException_stock _ _ _ _ s) (fun _ => StockStep.refl s)

theorem closeBundle_stock (n : Nat) (r : CloseReason) (s : State) :
    StockStep s (closeBundle n r s) := by
  unfold closeBundle
  dsimp only
  split
  · exact StockStep.refl s
  · refine StockStep.trans ?_ (StockStep.foldl _ (fun s k => lateUnmade_stock k s) _ _)
    split
    · exact updateBundle_stock _ _ s
    · exact (updateBundle_stock _ _ s).trans (setEjectTimer_stock _ _ _)

theorem completionTest_stock (n : Nat) (s : State) : StockStep s (completionTest n s) := by
  unfold completionTest
  split
  · exact StockStep.refl s
  · exact StockStep.ite _ (fun _ => closeBundle_stock _ _ s) (fun _ => StockStep.refl s)

theorem forceForRequest_stock (n : Nat) (s : State) : StockStep s (forceForRequest n s) := by
  unfold forceForRequest
  exact StockStep.ite _ (fun _ => (closeBundle_stock _ _ s).trans (raisePocketWait_stock _))
    (fun _ => StockStep.refl s)

theorem lookAheadFor_stock (n : Nat) (s : State) : StockStep s (lookAheadFor n s) := by
  unfold lookAheadFor
  split
  · exact StockStep.refl s
  · refine StockStep.ite _ (fun _ => ?_) (fun _ => StockStep.refl s)
    split
    · exact reserve_stock _ _ s
    · have h : ∀ u : State, StockStep s u →
          StockStep s (match forceChoice u with
            | some m => closeBundle m .forced u
            | none => u) := by
        intro u hu
        split
        · exact hu.trans (closeBundle_stock _ _ _)
        · exact hu
      have h1 := h { s with stacker := { s.stacker with request := some n } } {}
      exact StockStep.ite _ (fun _ => h1.trans (raisePocketWait_stock _)) (fun _ => h1)

theorem freeUnclosed_stock (n : Nat) (r : CloseReason) (s : State) :
    StockStep s (freeUnclosed n r s) := by
  unfold freeUnclosed
  dsimp only
  split
  · exact StockStep.refl s
  · have h := eraseBundle_stock n s
    have h2 : ∀ b : Bundle, StockStep s
        { eraseBundle n s with
          stacker :=
            { (eraseBundle n s).stacker with
              lastFreed := some { bundle := n, route := b.route, reason := r }
              freedCount := raise top16 (eraseBundle n s).stacker.freedCount } } :=
      fun _ => h.trans {}
    have h3 : ∀ (c : Prop) [Decidable c] (u : State), StockStep s u →
        StockStep s (if c then clearRequest u else u) := fun c _ u hu =>
      StockStep.ite c (fun _ => hu.trans (clearRequest_stock u)) (fun _ => hu)
    exact StockStep.ite _ (fun _ => (h3 _ _ (h2 _)).trans (answerRequest_stock _))
      (fun _ => h3 _ _ (h2 _))

/-! ### Plans -/

theorem retirePlan_stock (i : Nat) (s : State) : StockStep s (retirePlan i s) :=
  (setPlan_stock i none s).trans (mapRecords_stock _ _)

theorem retirementTest_stock (i : Nat) (s : State) : StockStep s (retirementTest i s) := by
  unfold retirementTest
  split
  · exact StockStep.refl s
  · exact StockStep.ite _ (fun _ => retirePlan_stock i s) (fun _ => StockStep.refl s)

theorem finaliseOrdinal_stock (ref : PlanRef) (s : State) : StockStep s (finaliseOrdinal ref s) := by
  unfold finaliseOrdinal
  dsimp only
  split
  · exact StockStep.refl s
  · refine StockStep.trans ?_ (retirementTest_stock _ _)
    split
    · exact (updateOrdinal_stock _ _ s).trans
        ((updateBundle_stock _ _ _).trans (completionTest_stock _ _))
    all_goals exact updateOrdinal_stock _ _ s

theorem finaliseCurrent_stock (i : Nat) (s : State) : StockStep s (finaliseCurrent i s) := by
  unfold finaliseCurrent
  split
  · exact StockStep.refl s
  · split
    · exact StockStep.refl s
    · exact StockStep.ite _ (fun _ => finaliseOrdinal_stock _ s) (fun _ => StockStep.refl s)

theorem finaliseOthers_stock (r : Nat) (s : State) : StockStep s (finaliseOthers r s) :=
  StockStep.foldl _
    (fun s i => StockStep.ite _ (fun _ => finaliseCurrent_stock i s) (fun _ => StockStep.refl s)) _ s

theorem closeToGrowth_stock (i : Nat) (s : State) : StockStep s (closeToGrowth i s) := by
  unfold closeToGrowth
  split
  · exact StockStep.refl s
  · exact (setPlan_stock _ _ s).trans (finaliseCurrent_stock _ _)

theorem departHandOff_stock (ref : PlanRef) (n : Nat) (s : State) :
    StockStep s (departHandOff ref n s) := by
  unfold departHandOff
  split
  · exact StockStep.refl s
  · exact StockStep.ite _
      (fun _ => (freeUnclosed_stock _ _ s).trans
        ((updateOrdinal_stock _ _ _).trans (retirementTest_stock _ _)))
      (fun _ => completionTest_stock _ s)

theorem departFrom_stock (ref : PlanRef) (m : Nat) (s : State) : StockStep s (departFrom ref m s) := by
  unfold departFrom
  split
  · exact StockStep.refl s
  · split
    · exact StockStep.ite _
        (fun _ => (updateOrdinal_stock _ _ s).trans
          ((updateOrdinal_stock _ _ _).trans (retirementTest_stock _ _)))
        (fun _ => updateOrdinal_stock _ _ s)
    · split
      · exact StockStep.refl s
      · exact StockStep.ite _
          (fun _ => (updateOrdinal_stock _ _ s).trans
            ((updateBundle_stock _ _ _).trans (departHandOff_stock _ _ _)))
          (fun _ => StockStep.refl s)
    all_goals exact StockStep.refl s

theorem depart_stock (r : Record) (s : State) : StockStep s (depart r s) := by
  unfold depart
  split
  · exact StockStep.refl s
  · exact departFrom_stock _ _ s

theorem assignRefs_stock (p : Nat) (gs : List (List Record)) :
    ∀ (o : Nat) (s : State), StockStep s (assignRefs p o gs s) := by
  induction gs with
  | nil => exact fun _ s => StockStep.refl s
  | cons g gs ih => exact fun o s =>
      (mapRecords_stock _ s).trans (ih (o + 1) _)

theorem makePlan_stock (i : Nat) (r : Record) (s : State) : StockStep s (makePlan i r s) := by
  unfold makePlan
  dsimp only
  exact StockStep.ite _ (fun _ => (setPlan_stock _ _ s).trans (assignRefs_stock _ _ _ _))
    (fun _ => (setPlan_stock _ _ s).trans (updateRecord_stock _ _ _))

theorem joinOrdinal_stock (ref : PlanRef) (r : Record) (s : State) :
    StockStep s (joinOrdinal ref r s) := by
  unfold joinOrdinal
  dsimp only
  split
  · exact StockStep.refl s
  · split
    · exact (updateOrdinal_stock _ _ s).trans (updateBundle_stock _ _ _)
    all_goals exact updateOrdinal_stock _ _ s

theorem openOrdinal_stock (i : Nat) (p : Plan) (r : Record) (s : State) :
    StockStep s (openOrdinal i p r s) := by
  unfold openOrdinal
  dsimp only
  split
  · exact setPlan_stock _ _ s
  · exact StockStep.ite _ (fun _ => (setPlan_stock _ _ s).trans (finaliseOrdinal_stock _ _))
      (fun _ => setPlan_stock _ _ s)

theorem finaliseAtDrain_stock (s : State) : StockStep s (finaliseAtDrain s) := by
  unfold finaliseAtDrain
  dsimp only
  refine StockStep.trans ?_ (StockStep.foldl _ (fun s i => retirePlan_stock i s) _ _)
  exact { bundles := fun h => h.of_sublist (by rw [map_number (fun b => by split <;> rfl)]) rfl }

/-! ### The carrier unit -/

theorem produce_stock (m : PrinterMessage) (s : State) : StockStep s (produce m s) := by
  unfold produce
  split <;> exact {}

theorem produceCancel_stock (n : BitVec 16) (s : State) : StockStep s (produceCancel n s) := by
  unfold produceCancel
  exact StockStep.ite _ (fun _ => {}) (fun _ => produce_stock _ s)

theorem transmitNext_stock (s : State) : StockStep s (transmitNext s) := {}

theorem updatePrinterWait_stock (s : State) : StockStep s (updatePrinterWait s) := by
  unfold updatePrinterWait
  exact StockStep.ite _ (fun _ => StockStep.refl s) (fun _ => clearPrinterWait_stock s)

theorem sendJob_stock (p : Piece) (s : State) : StockStep s (sendJob p s) := by
  unfold sendJob
  dsimp only
  refine StockStep.trans ?_ (produce_stock _ _)
  exact {}

theorem dispatchFrom_stock (ps : List Piece) : ∀ s, StockStep s (dispatchFrom ps s) := by
  induction ps with
  | nil => exact StockStep.refl
  | cons p ps ih =>
    intro s
    unfold dispatchFrom
    split
    · exact StockStep.refl s
    · exact StockStep.ite _ (fun _ => (sendJob_stock p s).trans (ih _)) (fun _ => StockStep.refl s)
    all_goals exact ih s

theorem dispatch_stock (s : State) : StockStep s (dispatch s) := dispatchFrom_stock _ s

theorem resolveJob_stock (n : BitVec 16) (j : JobState) (s : State) : StockStep s (resolveJob n j s) := by
  unfold resolveJob
  dsimp only
  refine StockStep.trans ?_ ((updatePrinterWait_stock _).trans (dispatch_stock _))
  exact {}

theorem cancelJob_stock (p : Piece) (s : State) : StockStep s (cancelJob p s) := by
  unfold cancelJob
  split
  case h_1 => exact (updatePiece_stock _ _ s).trans (updatePrinterWait_stock _)
  case h_2 => exact (updatePiece_stock _ _ s).trans (updatePrinterWait_stock _)
  case h_3 => exact (produceCancel_stock _ s).trans (resolveJob_stock _ _ _)
  case h_4 => exact (produceCancel_stock _ s).trans (resolveJob_stock _ _ _)
  all_goals exact StockStep.refl s

theorem removeWithJob_stock (p : Piece) (s : State) : StockStep s (removeWithJob p s) := by
  unfold removeWithJob
  split
  case h_1 =>
    exact (produceCancel_stock _ s).trans
      ((removePiece_stock _ _).trans ((updatePrinterWait_stock _).trans (dispatch_stock _)))
  case h_2 =>
    exact (produceCancel_stock _ s).trans
      ((removePiece_stock _ _).trans ((updatePrinterWait_stock _).trans (dispatch_stock _)))
  all_goals exact (removePiece_stock _ s).trans (updatePrinterWait_stock _)

theorem countCheck_steady (m : Bool) (c : Carrier) : (c.countCheck m).steady = c.steady := by
  unfold Carrier.countCheck
  dsimp only
  split <;> rfl

theorem waitCheck_stock (p : Piece) (s : State) : StockStep s (waitCheck p s) := by
  unfold waitCheck
  split
  case h_1 | h_2 | h_3 | h_4 => exact { steady := countCheck_steady _ _ }
  all_goals exact StockStep.refl s

theorem printerJobsAtMark_stock (s : State) : StockStep s (printerJobsAtMark s) := by
  unfold printerJobsAtMark
  dsimp only
  have h1 := mapPieces_stock
    (fun p => if p.becomesDue s.geometry.cOff (position s p) then { p with job := .due } else p) s
  have h2 := StockStep.ite
    (s.tracking.pieces.any (fun p => p.becomesDue s.geometry.cOff (position s p)) = true)
    (fun _ => h1.trans (dispatch_stock _)) (fun _ => h1)
  split
  · exact h2
  · exact h2.trans (waitCheck_stock _ _)

theorem carrierArrival_stock (s : State) : StockStep s (carrierArrival s) := by
  unfold carrierArrival
  split
  · exact StockStep.refl s
  · exact StockStep.ite _ (fun _ => giveOrder_stock _ s) (fun _ => StockStep.refl s)

theorem verifyArrival_stock (s : State) : StockStep s (verifyArrival s) := by
  unfold verifyArrival
  dsimp only
  split
  · exact StockStep.refl s
  · have h : ∀ u : State, StockStep s u → ∀ v : Verify, StockStep s { u with verify := v } :=
      fun u hu v => hu.trans {}
    exact h _ (StockStep.ite _ (fun _ => passStep_stock _ _ s)
      (fun _ => (cancelJob_stock _ s).trans (recordDefect_stock _ _ _ _))) _

/-! ### Stations -/

theorem magMiss_stock (p : Piece) (s : State) : StockStep s (magMiss p s) := by
  unfold magMiss
  dsimp only
  have h := removeWithJob_stock p s
  split
  · exact h
  · exact StockStep.ite _ (fun _ => h.trans ((freeRecord_stock _ _).trans (depart_stock _ _)))
      (fun _ => h.trans (requeue_stock _ _ _))

theorem magazineResult_stock (w : OpenWindow) (s : State) : StockStep s (magazineResult w s) := by
  unfold magazineResult
  split
  · exact StockStep.refl s
  · split
    · exact passStep_stock _ _ s
    · exact magMiss_stock _ s
    · exact passStep_stock _ _ s
    · exact recordDefect_stock _ _ _ s

theorem deliver_stock (n : BitVec 16) (i : Insert) (s : State) : StockStep s (deliver n i s) := {}

theorem insertResult_stock (i : Insert) (w : OpenWindow) (s : State) :
    StockStep s (insertResult i w s) := by
  unfold insertResult
  split
  · exact StockStep.refl s
  · refine StockStep.ite _ (fun _ => ?_) (fun _ => StockStep.refl s)
    split
    · exact (deliver_stock _ _ s).trans (passStep_stock _ _ _)
    · exact StockStep.ite _ (fun _ => recordDefect_stock _ _ _ s) (fun _ => passStep_stock _ _ s)
    · exact (deliver_stock _ _ s).trans (passStep_stock _ _ _)
    · exact (deliver_stock _ _ s).trans (recordDefect_stock _ _ _ _)

theorem cutResult_stock (w : OpenWindow) (s : State) : StockStep s (cutResult w s) := by
  unfold cutResult
  split
  · exact StockStep.refl s
  · split
    · exact passStep_stock _ _ s
    · exact passStep_stock _ _ s
    · exact recordDefect_stock _ _ _ s

theorem gaugeJudge_stock (p : Piece) (v : Nat) (s : State) : StockStep s (gaugeJudge p v s) := by
  unfold gaugeJudge
  dsimp only
  exact StockStep.ite _ (fun _ => (updatePiece_stock _ _ s).trans (recordDefect_stock _ _ _ _))
    (fun _ => StockStep.ite _ (fun _ => (updatePiece_stock _ _ s).trans (recordDefect_stock _ _ _ _))
      (fun _ => (updatePiece_stock _ _ s).trans (passStep_stock _ _ _)))

theorem gaugeResult_stock (w : OpenWindow) (s : State) : StockStep s (gaugeResult w s) := by
  unfold gaugeResult
  split
  · exact StockStep.refl s
  · exact StockStep.ite _ (fun _ => gaugeJudge_stock _ _ s) (fun _ => passStep_stock _ _ s)

theorem deliverResult_stock (u : Nat) (w : OpenWindow) (s : State) :
    StockStep s (deliverResult u w s) := by
  unfold deliverResult
  split
  case h_1 => exact magazineResult_stock w s
  case h_8 => exact cutResult_stock w s
  case h_9 => exact gaugeResult_stock w s
  case h_10 => exact StockStep.refl s
  all_goals exact insertResult_stock _ w s

theorem insertArrivals_stock (s : State) : StockStep s (insertArrivals s) :=
  StockStep.foldl _
    (fun s i => by
      split
      · exact StockStep.refl s
      · exact StockStep.ite _ (fun _ => giveOrder_stock _ s) (fun _ => StockStep.refl s)) _ s

theorem wrapArrival_stock (s : State) : StockStep s (wrapArrival s) := by
  unfold wrapArrival
  split
  · exact StockStep.refl s
  · exact passStep_stock _ _ s

theorem dropExpected_stock (n : BitVec 16) (s : State) : StockStep s (dropExpected n s) := {}

theorem timeOutEntry_stock (n : BitVec 16) (s : State) : StockStep s (timeOutEntry n s) := {}

theorem verifyTimeouts_stock (s : State) : StockStep s (verifyTimeouts s) :=
  StockStep.foldl _ (fun s n => timeOutEntry_stock n s) _ s

/-! ### Timing units -/

theorem closeWindow_stock (u : Nat) (s : State) : StockStep s (closeWindow u s) := by
  unfold closeWindow
  split
  · exact StockStep.refl s
  · exact (updateUnit_stock u (fun t => { t with window := none }) s).trans
      (deliverResult_stock _ _ _)

theorem openWindow_stock (u : Nat) (s : State) : StockStep s (openWindow u s) :=
  (closeWindow_stock u s).trans (updateUnit_stock _ _ _)

theorem windowCloseAt_stock (u p : Nat) (s : State) : StockStep s (windowCloseAt u p s) :=
  StockStep.ite _ (fun _ => closeWindow_stock u s) (fun _ => StockStep.refl s)

theorem windowOpenAt_stock (u p : Nat) (s : State) : StockStep s (windowOpenAt u p s) :=
  StockStep.ite _ (fun _ => openWindow_stock u s) (fun _ => StockStep.refl s)

theorem unitPhase_stock (p : Nat) (s : State) (u : Nat) : StockStep s (unitPhase p s u) :=
  StockStep.ite _ (fun _ => updateUnit_stock _ _ s)
    (fun _ => (windowCloseAt_stock _ _ s).trans (windowOpenAt_stock _ _ _))

theorem phaseReached_stock (p : Nat) (s : State) : StockStep s (phaseReached p s) :=
  StockStep.foldl _ (unitPhase_stock p) _ s

theorem unitPhaseZero_stock (s : State) (u : Nat) : StockStep s (unitPhaseZero s u) :=
  StockStep.ite _ (fun _ => updateUnit_stock _ _ s)
    (fun _ => windowOpenAt_stock _ _ s)

theorem windowCloseAtMark_stock (u : Nat) (s : State) : StockStep s (windowCloseAtMark u s) :=
  StockStep.ite _ (fun _ => closeWindow_stock u s) (fun _ => StockStep.refl s)

theorem beginPitch_stock (s : State) : StockStep s (beginPitch s) := {}

theorem writeUnit_stock (u : Nat) (n : UnitSettings) (s : State) : StockStep s (writeUnit u n s) := by
  unfold writeUnit
  dsimp only
  have h := updateUnit_stock u
    (fun t => TimingUnit.compensate s.geometry.c 0 { t with settings := n, pending := none }) s
  exact StockStep.ite _ (fun _ => h.trans (updateUnit_stock _ _ _))
    (fun _ => StockStep.ite _ (fun _ => h.trans (openWindow_stock _ _)) (fun _ => h))

theorem applyPending_stock (s : State) : StockStep s (applyPending s) :=
  StockStep.foldl _
    (fun s u => by
      split
      · exact StockStep.refl s
      · exact writeUnit_stock _ _ s) _ s

/-! ### The stacker and the diverter -/

theorem lookAheadAtMark_stock (s : State) : StockStep s (lookAheadAtMark s) := by
  unfold lookAheadAtMark
  refine StockStep.ite _ (fun _ => StockStep.refl s) (fun _ => ?_)
  split
  · exact StockStep.refl s
  · exact lookAheadFor_stock _ s

theorem becomeHeld_stock (n : Nat) (s : State) : StockStep s (becomeHeld n s) :=
  (updateBundle_stock _ _ s).trans (forceForRequest_stock _ _)

theorem displace_stock (p : PocketId) (s : State) : StockStep s (displace p s) := by
  unfold displace
  split
  · exact StockStep.refl s
  · exact StockStep.ite _
      (fun _ => StockStep.ite _ (fun _ => closeBundle_stock _ _ s)
        (fun _ => StockStep.ite _ (fun _ => closeBundle_stock _ _ s) (fun _ => becomeHeld_stock _ s)))
      (fun _ => StockStep.refl s)

theorem endClaim_stock (n : Nat) (s : State) : StockStep s (endClaim n s) := by
  unfold endClaim
  split
  · exact StockStep.refl s
  · exact StockStep.ite _ (fun _ => (updateBundle_stock _ _ s).trans (forceForRequest_stock _ _))
      (fun _ => StockStep.refl s)

theorem stackPiece_stock (p : Piece) (b : Bundle) (k : PocketId) (s : State) :
    StockStep s (stackPiece p b k s) := by
  unfold stackPiece
  dsimp only
  have h1 := (updateRecord_stock p.key (fun r => { r with state := .stacked }) s).trans
    ((updateBundle_stock b.number
      (Bundle.withMember p.key (((findRecord s p.key).map (fun r => r.nominalMass)).getD 0)) _).trans
      (removePiece_stock p.number _))
  have h2 := StockStep.ite (b.state = .forming) (fun _ => h1.trans (displace_stock k _)) (fun _ => h1)
  have h3 := h2.trans (completionTest_stock b.number _)
  exact StockStep.ite _ (fun _ => h3.trans (endClaim_stock _ _)) (fun _ => h3)

theorem latePiece_stock (p : Piece) (d : Bool) (s : State) : StockStep s (latePiece p d s) := by
  unfold latePiece
  dsimp only
  have h : ∀ u : State, StockStep s u → ∀ n : Nat,
      StockStep s { u with stacker := { u.stacker with lateCount := n } } :=
    fun u hu n => hu.trans {}
  have h1 := h _ ((removePiece_stock p.number s).trans
    (enterException_stock p.key .lateMade none (some p.number) _))
  split
  · exact (h1 _).trans (depart_stock _ _)
  · exact h1 _

theorem stackOrLate_stock (p : Piece) (s : State) : StockStep s (stackOrLate p s) := by
  unfold stackOrLate
  split
  · exact latePiece_stock _ _ s
  · refine StockStep.ite _ (fun _ => ?_) (fun _ => latePiece_stock _ _ s)
    split
    · exact stackPiece_stock _ _ _ s
    · exact latePiece_stock _ _ s

theorem stackerArrival_stock (s : State) : StockStep s (stackerArrival s) := by
  unfold stackerArrival
  split
  · exact StockStep.refl s
  · exact (lookAheadFor_stock _ s).trans (stackOrLate_stock _ _)

theorem expireBundle_stock (least : Nat) (s : State) (n : Nat) :
    StockStep s (expireBundle least s n) := by
  unfold expireBundle
  split
  · exact StockStep.refl s
  · exact StockStep.ite _ (fun _ => closeBundle_stock _ _ s) (fun _ => StockStep.refl s)

theorem expireFrom_stock (least : Nat) (s : State) : StockStep s (expireFrom least s) :=
  StockStep.foldl _ (expireBundle_stock least) _ s

theorem holdExpiryTest_stock (s : State) : StockStep s (holdExpiryTest s) := expireFrom_stock _ s

theorem completeEjection_stock (b : Bundle) (s : State) : StockStep s (completeEjection b s) := by
  unfold completeEjection
  have h : StockStep s
      { s with stacker := { s.stacker with closedOrder := s.stacker.closedOrder ++ [b.number] } } := {}
  exact h.trans ((updateBundle_stock _ _ _).trans ((mapRecords_stock _ _).trans
    ((answerRequest_stock _).trans (retirementTest_stock _ _))))

theorem countDiversion_stock (c : DiverterCount) (s : State) : StockStep s (countDiversion c s) := by
  cases c <;> exact {}

theorem rejectWithdrawn_stock (p : Piece) (r : Record) (s : State) :
    StockStep s (rejectWithdrawn p r s) :=
  (removePiece_stock _ s).trans ((enterException_stock _ _ _ _ _).trans
    ((countDiversion_stock _ _).trans ((giveOrder_stock _ _).trans (depart_stock _ _))))

theorem rejectRemade_stock (p : Piece) (f : Option DefectCause) (s : State) :
    StockStep s (rejectRemade p f s) :=
  (removePiece_stock _ s).trans ((updateRecord_stock _ _ _).trans
    ((requeue_stock _ _ _).trans ((countDiversion_stock _ _).trans (giveOrder_stock _ _))))

theorem rejectSpoiled_stock (p : Piece) (r : Record) (f : Option DefectCause) (s : State) :
    StockStep s (rejectSpoiled p r f s) :=
  (removePiece_stock _ s).trans ((updateRecord_stock _ _ _).trans
    ((enterException_stock _ _ _ _ _).trans ((countDiversion_stock _ _).trans
      ((giveOrder_stock _ _).trans (depart_stock _ _)))))

theorem handOut_stock (p : Piece) (s : State) : StockStep s (handOut p s) :=
  (removePiece_stock _ s).trans ((enterException_stock _ _ _ _ _).trans
    ((countDiversion_stock _ _).trans (giveOrder_stock _ _)))

theorem lookAheadAtDiverter_stock (p : Piece) (s : State) : StockStep s (lookAheadAtDiverter p s) :=
  StockStep.ite _ (fun _ => lookAheadFor_stock _ s) (fun _ => StockStep.refl s)

theorem passClaiming_stock (p : Piece) (s : State) : StockStep s (passClaiming p s) :=
  (updatePiece_stock _ _ s).trans ((passStep_stock _ _ _).trans ((updateBundle_stock _ _ _).trans
    ((countDiversion_stock _ _).trans ((countDiversion_stock _ _).trans
      (lookAheadAtDiverter_stock _ _)))))

theorem passOn_stock (p : Piece) (s : State) : StockStep s (passOn p s) :=
  (passStep_stock _ _ s).trans ((countDiversion_stock _ _).trans (lookAheadAtDiverter_stock _ _))

theorem divert_stock (p : Piece) (r : Record) (s : State) : StockStep s (divert p r s) := by
  unfold divert
  refine StockStep.ite _ (fun _ => rejectWithdrawn_stock _ _ s) (fun _ => ?_)
  refine StockStep.ite _
    (fun _ => StockStep.ite _ (fun _ => rejectRemade_stock _ _ s) (fun _ => rejectSpoiled_stock _ _ _ s))
    (fun _ => ?_)
  split
  · exact passClaiming_stock _ s
  · exact passOn_stock _ s
  · exact passOn_stock _ s
  all_goals exact handOut_stock _ s

theorem diverterArrival_stock (s : State) : StockStep s (diverterArrival s) := by
  unfold diverterArrival
  split
  · exact StockStep.refl s
  · split
    · exact StockStep.refl s
    · exact divert_stock _ _ s

/-! ### The number of a new bundle record (R75) -/

/-- The number tried after `k` rises of the bundle counter. -/
theorem nextBundleNumber_iterate (n k : Nat) (hk : k ≤ 65535) : nextBundleNumber^[k] n
    = if k = 0 then n else if n < 65535 then (if n + k ≤ 65535 then n + k else n + k - 65535) else k := by
  induction k with
  | zero => rfl
  | succ k ih =>
    have ih := ih (by omega)
    rw [Function.iterate_succ_apply', nextBundleNumber]
    grind

/-- A number in use that is given shows that every number tried is in use. -/
theorem iterate_mem_of_freeBundleNumber_mem {used : List Nat} (fuel : Nat) : ∀ {n : Nat},
    freeBundleNumber used fuel n ∈ used → ∀ k, k ≤ fuel → nextBundleNumber^[k] n ∈ used := by
  induction fuel with
  | zero => intro n h k hk; rwa [Nat.le_zero.mp hk]
  | succ fuel ih =>
    intro n h k hk
    rw [freeBundleNumber] at h
    split at h
    next hn =>
      cases k with
      | zero => exact hn
      | succ k => exact ih h k (by omega)
    next hn => exact absurd h hn

/-- With a bundle record FREE, the number given is not in use (R75). -/
theorem freeBundleNumber_not_mem {used : List Nat} (n : Nat) (h : used.length < Config.bundleSlots) :
    freeBundleNumber used Config.bundleSlots n ∉ used := by
  intro hm
  have tried := iterate_mem_of_freeBundleNumber_mem _ hm
  let tries := (List.range Config.bundleSlots).map (fun k => nextBundleNumber^[k] n)
  have nodup : tries.Nodup := by
    refine List.Nodup.map_on (fun a ha b hb e => ?_) List.nodup_range
    rw [List.mem_range, Config.bundleSlots] at ha hb
    rw [nextBundleNumber_iterate _ _ (by omega), nextBundleNumber_iterate _ _ (by omega)] at e
    split_ifs at e <;> omega
  have sub : tries ⊆ used := fun x hx => by
    obtain ⟨k, hk, rfl⟩ := List.mem_map.mp hx
    exact tried k (List.mem_range.mp hk).le
  have := (nodup.subperm sub).length_le
  simp only [tries, List.length_map, List.length_range] at this
  omega

/-! ### Births -/

/-- The numbers of the allocated bundle records. -/
def bundleNumbers (s : State) : List Nat := s.stacker.bundles.map (fun b => b.number)

theorem closeBundle_numbers (n : Nat) (w : CloseReason) (s : State) :
    bundleNumbers (closeBundle n w s) = bundleNumbers s := by
  cases h : findBundle s n with
  | none => simp only [closeBundle, h]
  | some b =>
    rw [closeBundle_eq w h, lateUnmades_eq]
    cases e : b.pocket with
    | none => exact updateBundle_numbers n (f := Bundle.closedWith w) (fun _ => rfl) s
    | some p => cases p <;> exact updateBundle_numbers n (f := Bundle.closedWith w) (fun _ => rfl) s

theorem completionTest_numbers (n : Nat) (s : State) :
    bundleNumbers (completionTest n s) = bundleNumbers s := by
  rcases completionTest_cases n s with ⟨b, -, -, -, h⟩ | h
  · rw [h, closeBundle_numbers]
  · rw [h]

theorem updateOrdinal_stacker (f : PlanRef) (g : Ordinal → Ordinal) (s : State) :
    (updateOrdinal f g s).stacker = s.stacker := by
  unfold updateOrdinal
  split <;> rfl

theorem retirementTest_stacker (i : Nat) (s : State) : (retirementTest i s).stacker = s.stacker := by
  unfold retirementTest
  split
  · rfl
  · split <;> rfl

theorem finaliseOrdinal_numbers (f : PlanRef) (s : State) :
    bundleNumbers (finaliseOrdinal f s) = bundleNumbers s := by
  unfold finaliseOrdinal
  split
  · rfl
  · dsimp only
    rw [bundleNumbers, retirementTest_stacker]
    split
    · refine (completionTest_numbers _ _).trans ((updateBundle_numbers _ ?_ _).trans ?_)
      · exact fun _ => rfl
      · rw [updateOrdinal_stacker]; rfl
    all_goals rw [updateOrdinal_stacker]; rfl

theorem assignRefs_stacker (i : Nat) (groups : List (List Record)) :
    ∀ o s, (assignRefs i o groups s).stacker = s.stacker := by
  induction groups with
  | nil => exact fun _ _ => rfl
  | cons g groups ih => exact fun o s => ih _ _

theorem makePlan_stacker (i : Nat) (r : Record) (s : State) : (makePlan i r s).stacker = s.stacker := by
  unfold makePlan
  split
  · exact assignRefs_stacker _ _ _ _
  · rfl

theorem openOrdinal_numbers (i : Nat) (p : Plan) (r : Record) (s : State) :
    bundleNumbers (openOrdinal i p r s) = bundleNumbers s := by
  unfold openOrdinal
  dsimp only
  split
  · rfl
  · split
    · exact finaliseOrdinal_numbers _ _
    · rfl

theorem bundleTableFull_iff (s : State) :
    bundleTableFull s = false ↔ (bundleNumbers s).length < Config.bundleSlots := by
  simp [bundleTableFull, bundleNumbers]

/-- A bundle record is allocated under a number that none in use has (R75). -/
theorem allocateBundle_stock (f : PlanRef) (r : Nat) (s : State)
    (h : (bundleNumbers s).length < Config.bundleSlots) : StockStep s (allocateBundle f r s) := by
  unfold allocateBundle
  split
  · exact StockStep.refl s
  · refine StockStep.trans ?_ ((updateOrdinal_stock _ _ _).trans (mapRecords_stock _ _))
    have fresh := freeBundleNumber_not_mem s.stacker.counter h
    refine { bundles := fun ⟨hn, _, hp⟩ => ⟨?_, ?_, hp⟩ }
    · simp only [List.map_append, List.map_cons, List.map_nil]
      exact List.nodup_append.mpr ⟨hn, List.nodup_singleton _, fun a ha b hb e =>
        fresh (List.mem_singleton.mp hb ▸ e ▸ ha)⟩
    · simpa [bundleNumbers] using h

theorem gap_stock (c : GapCause) (s : State) : StockStep s (gap c s) := {}

theorem bear_stock (r : Record) (s : State) : StockStep s (bear r s) := {}

theorem bearWaiting_stock (ref : PlanRef) (r : Record) (s : State) :
    StockStep s (bearWaiting ref r s) :=
  StockStep.ite _ (fun _ => gap_stock _ s) (fun h =>
    (allocateBundle_stock _ _ s ((bundleTableFull_iff s).mp (by simpa using h))).trans (bear_stock _ _))

theorem bearNewRoute_stock (r : Record) (s : State) : StockStep s (bearNewRoute r s) := by
  unfold bearNewRoute
  split
  · exact gap_stock _ s
  next i _ =>
    refine StockStep.ite _ (fun _ => gap_stock _ s) (fun h => ?_)
    have room : (bundleNumbers (makePlan i r s)).length < Config.bundleSlots := by
      rw [bundleNumbers, makePlan_stacker]
      exact (bundleTableFull_iff s).mp (by simpa using h)
    exact (makePlan_stock _ _ s).trans ((allocateBundle_stock _ _ _ room).trans
      ((finaliseOthers_stock _ _).trans (bear_stock _ _)))

theorem takeRef_stock (ref : PlanRef) (r : Record) (s : State) : StockStep s (takeRef ref r s) :=
  updateRecord_stock _ _ s

theorem finaliseIfEnd_stock (ref : PlanRef) (r : Record) (s : State) :
    StockStep s (finaliseIfEnd ref r s) :=
  StockStep.ite _ (fun _ => finaliseOrdinal_stock _ s) (fun _ => StockStep.refl s)

theorem bearGrowing_stock (i : Nat) (r : Record) (s : State) : StockStep s (bearGrowing i r s) := by
  unfold bearGrowing
  split
  · exact StockStep.refl s
  · refine StockStep.ite _
      (fun _ => (StockStep.ite _ (fun _ => StockStep.refl s) (fun _ => closeToGrowth_stock _ s)).trans
        (gap_stock _ _)) (fun _ => ?_)
    split
    · exact (joinOrdinal_stock _ _ s).trans ((takeRef_stock _ _ _).trans
        ((finaliseIfEnd_stock _ _ _).trans ((finaliseOthers_stock _ _).trans (bear_stock _ _))))
    · refine StockStep.ite _ (fun _ => gap_stock _ s) (fun h => ?_)
      refine (openOrdinal_stock _ _ _ s).trans ((takeRef_stock _ _ _).trans
        ((allocateBundle_stock _ _ _ ?_).trans ((finaliseIfEnd_stock _ _ _).trans
          ((finaliseOthers_stock _ _).trans (bear_stock _ _)))))
      exact (congrArg List.length (openOrdinal_numbers _ _ _ s)).trans_lt
        ((bundleTableFull_iff s).mp (by simpa using h))

theorem birthDecision_stock (m : LineState) (s : State) : StockStep s (birthDecision m s) := by
  unfold birthDecision
  refine StockStep.ite _ (fun _ => ?_) (fun _ => StockStep.refl s)
  split
  · exact gap_stock _ s
  · refine StockStep.ite _ (fun _ => gap_stock _ s) (fun _ => ?_)
    refine StockStep.ite _ (fun _ => gap_stock _ s) (fun _ => ?_)
    split
    · exact bear_stock _ s
    · exact bearWaiting_stock _ _ s
    · exact bearNewRoute_stock _ s
    · exact bearGrowing_stock _ _ s

end Sys2Proof.Machine

/-! PROOF. What every step keeps (sections 1.1, 2.2, 3.1, 3.4, 5.3, 7.1, 9.4): each command and event is
taken apart once, into what it does to each of the relations, and O2, O55 and O56 to O60 are read off. -/

namespace Sys2Proof.Machine

/-! ### The line unit's acts and the bundle table -/

theorem StockStep.withLine (l : LineUnit) (s : State) : StockStep s { s with line := l } := {}

theorem endMark_stock (s : State) : StockStep s (endMark s) := {}

theorem countPitch_stock (s : State) : StockStep s (countPitch s) := {}

theorem takeFault_stock (c : FaultCause) (s : State) : StockStep s (takeFault c s) := by
  unfold takeFault
  split
  · exact StockStep.refl s
  all_goals exact {}

theorem drainBundle_stock (s : State) (n : Nat) : StockStep s (drainBundle s n) := by
  unfold drainBundle
  split
  · exact StockStep.refl s
  · split
    · exact StockStep.ite _ (fun _ => closeBundle_stock _ _ s) (fun _ => closeBundle_stock _ _ s)
    · exact StockStep.ite _ (fun _ => closeBundle_stock _ _ s) (fun _ => closeBundle_stock _ _ s)
    · exact freeUnclosed_stock _ _ s
    all_goals exact StockStep.refl s

theorem drainBlocks_stock (s : State) : StockStep s (drainBlocks s) :=
  (StockStep.ite _ (fun _ => (finaliseAtDrain_stock s).trans (clearRequest_stock _))
    (fun _ => finaliseAtDrain_stock s)).trans (StockStep.foldl _ drainBundle_stock _ _)

theorem stopLine_stock (l : LineState) (s : State) : StockStep s (stopLine l s) :=
  StockStep.trans (t := enterLine l s) {} (applyPending_stock _)

theorem endDrain_stock (s : State) : StockStep s (endDrain s) :=
  (StockStep.withLine _ s).trans (stopLine_stock _ _)

theorem drainTest_stock (s : State) : StockStep s (drainTest s) :=
  StockStep.ite _ (fun _ => (drainBlocks_stock s).trans (endDrain_stock _)) (fun _ => StockStep.refl s)

theorem startMoving_stock (s : State) : StockStep s (startMoving s) :=
  StockStep.trans (t := enterLine (movingState s) s) {} (drainTest_stock _)

theorem settle_stock (s : State) : StockStep s (settle s) :=
  (StockStep.ite _ (fun _ => startMoving_stock s) (fun _ => StockStep.refl s)).trans (drainTest_stock _)

theorem takeExpiry_stock (e : Expiry) (s : State) : StockStep s (takeExpiry e s) := by
  have h : StockStep s { s with draws := s.draws + 1 } := {}
  cases e with
  | hold => exact h.trans (takeFault_stock _ _)
  | eject p => exact h.trans ((setEjectTimer_stock p _ _).trans (takeFault_stock _ _))

theorem passTime_stock (n : Nat) (s : State) : StockStep s (passTime n s) := by
  have h : ∀ fuel n s, StockStep s (passTimeFrom fuel n s) := by
    intro fuel
    induction fuel with
    | zero => exact fun n s => {}
    | succ fuel ih =>
      intro n s
      unfold passTimeFrom
      split
      · exact {}
      next t e _ =>
        refine StockStep.ite _ (fun _ => ?_) (fun _ => {})
        exact StockStep.trans (t := advanceTimers t s) {} ((takeExpiry_stock _ _).trans (ih _ _))
  exact h 3 n s

theorem markEvent_stock (m : LineState) (s : State) (e : MarkEvent) : StockStep s (markEvent m s e) := by
  cases e with
  | windowClose u => exact StockStep.ite _ (fun _ => StockStep.refl s) (fun _ => windowCloseAtMark_stock _ s)
  | stackerArrival => exact stackerArrival_stock s
  | diverterArrival => exact diverterArrival_stock s
  | lookAhead => exact lookAheadAtMark_stock s
  | holdExpiry => exact holdExpiryTest_stock s
  | wrapArrival => exact wrapArrival_stock s
  | verifyTimeout => exact verifyTimeouts_stock s
  | verifyArrival => exact verifyArrival_stock s
  | carrierArrival => exact carrierArrival_stock s
  | printerJobs => exact printerJobsAtMark_stock s
  | insertArrivals => exact insertArrivals_stock s
  | birthDecision => exact birthDecision_stock m s
  | drainTest => exact drainTest_stock s

theorem changeAtMark_stock (m : LineState) (s : State) : StockStep s (changeAtMark m s) := by
  unfold changeAtMark
  refine StockStep.ite _ (fun _ => ?_) (fun _ => takeFault_stock _ s)
  exact StockStep.ite _
    (fun _ => StockStep.ite _ (fun _ => {}) (fun _ => StockStep.ite _ (fun _ => {}) (fun _ => {})))
    (fun _ => {})

theorem pitchMark_stock (order : List MarkEvent) (s : State) : StockStep s (pitchMark order s) :=
  (countPitch_stock s).trans
    ((beginPitch_stock _).trans ((StockStep.foldl _ (markEvent_stock _) _ _).trans
      ((drainTest_stock _).trans ((StockStep.foldl unitPhaseZero unitPhaseZero_stock _ _).trans
        ((changeAtMark_stock _ _).trans (endMark_stock _))))))

/-! ### What is kept -/

/-- The relations that every step keeps, and the queue of waiting commands, which it leaves alone. -/
structure Keeps (s t : State) : Prop where
  pending : t.pending = s.pending := by rfl
  line : LineSafe s.line → LineSafe t.line := by exact id
  phase : PhaseSafe s → PhaseSafe t := by exact id
  store : StoreSafe s → StoreSafe t := by exact id
  bundles : BundleSafe s → BundleSafe t := by exact id
  lead : LeadSafe s.carrier → LeadSafe t.carrier := by exact id
  settings : SettingsSafe s → SettingsSafe t := by exact id

theorem Keeps.refl (s : State) : Keeps s s := {}

theorem Keeps.trans {s t u : State} (h : Keeps s t) (k : Keeps t u) : Keeps s u where
  pending := k.pending.trans h.pending
  line := fun x => k.line (h.line x)
  phase := fun x => k.phase (h.phase x)
  store := fun x => k.store (h.store x)
  bundles := fun x => k.bundles (h.bundles x)
  lead := fun x => k.lead (h.lead x)
  settings := fun x => k.settings (h.settings x)

theorem Keeps.ite {s t u : State} (c : Prop) [Decidable c] (h : c → Keeps s t) (k : ¬c → Keeps s u) :
    Keeps s (if c then t else u) := by
  split
  · exact h ‹_›
  · exact k ‹_›

/-- No subscriber key is added. -/
theorem StoreSafe.of_keys {s t : State} (h : StoreSafe s)
    (k : (t.store.map (fun r => r.key)).Sublist (s.store.map (fun r => r.key))) : StoreSafe t :=
  ⟨h.1.sublist k, le_trans (by simpa using k.length_le) h.2⟩

/-- The settings are among what the acts of the blocks and of the line leave alone. -/
theorem MotionStep.settings {s t : State} (h : MotionStep s t) (k : StockStep s t) (hs : SettingsSafe s) :
    SettingsSafe t := by
  have hk := k.steady
  simp only [Carrier.steady, Prod.mk.injEq] at hk
  obtain ⟨hstart, hup, hdown, hwait, hmargin⟩ := hk
  have hu := h.units
  unfold SettingsSafe PrinterSafe at *
  rw [h.nmax, h.mmax, h.burst, h.remakeLimit, h.tolerance, h.lmin, h.lmax, hup, hdown, hwait, hmargin,
    h.geometry, h.holdLimit, h.bundleHold, h.ejectLimit, h.lowWater, hstart, h.product, h.filmMass,
    h.inserts, h.host]
  rw [h.geometry] at hu
  obtain ⟨h1, h2, h3, h4, h5, h6, h7, h8, h9, h10, h11, h12, h13, h14, h15, h16, h17⟩ := hs
  exact ⟨h1, h2, h3, h4, h5, h6, h7, h8, h9, h10, h11, h12, h13, h14, h15, hu h16, h17⟩

theorem MotionStep.keeps {s t : State} (h : MotionStep s t) (k : StockStep s t) : Keeps s t where
  pending := h.pending
  line := h.safe
  phase := fun p => by
    unfold PhaseSafe at *
    rw [h.inPitch, h.geometry]
    exact p
  store := fun x => x.of_keys h.keys
  bundles := k.bundles
  lead := h.lead
  settings := h.settings k

theorem BlockStep.keeps {s t : State} (h : BlockStep s t) (k : StockStep s t) : Keeps s t :=
  h.motion.keeps k

theorem settle_keeps (s : State) : Keeps s (settle s) := (settle_motion s).keeps (settle_stock s)

theorem passTime_keeps (n : Nat) (s : State) : Keeps s (passTime n s) :=
  (passTime_motion n s).keeps (passTime_stock n s)

theorem takeFault_keeps (c : FaultCause) (s : State) : Keeps s (takeFault c s) :=
  (takeFault_motion c s).keeps (takeFault_stock c s)

/-! ### The host link and the pins -/

/-- The host link changed, with no setup put in its latch and no operation begun. -/
theorem Keeps.withHost (s : State) (h : HostLink) (hl : h.latch = s.host.latch ∨ h.latch = .empty)
    (ho : h.operation = s.host.operation ∨ h.operation = none) : Keeps s { s with host := h } where
  settings := fun ⟨h1, h2, h3, h4, h5, h6, h7, h8, h9, h10, h11, h12, h13, h14, h15, h16, hj, hc⟩ => by
    refine ⟨h1, h2, h3, h4, h5, h6, h7, h8, h9, h10, h11, h12, h13, h14, h15, h16, ?_, ?_⟩
    · intro low start e
      rcases hl with hl | hl
      · exact hj low start (hl ▸ e)
      · exact absurd (hl ▸ e) (by simp)
    · intro low start e
      rcases ho with ho | ho
      · exact hc low start (ho ▸ e)
      · exact absurd (ho ▸ e) (by simp)

theorem answer_keeps (c : ResultCode) (p : List Byte) (s : State) : Keeps s (answer c p s) :=
  Keeps.withHost s _ (.inl rfl) (.inl rfl)

theorem emptyLatch_keeps (s : State) : Keeps s (emptyLatch s) :=
  Keeps.withHost s _ (.inr rfl) (.inl rfl)

theorem freshGauge_keeps (b : Bool) (s : State) : Keeps s (freshGauge b s) :=
  Keeps.ite _ (fun _ => {}) (fun _ => {})

theorem Keeps.answer {s t : State} (c : ResultCode) (p : List Byte) (h : Keeps s t) :
    Keeps s (answer c p t) := h.trans (answer_keeps c p t)

theorem takeFrame_keeps {act : State → State} {s : State} (h : Keeps s (act s)) :
    Keeps s (takeFrame act s) := by
  rcases takeFrame_cases act s with e | e | ⟨_, e⟩ <;> rw [e]
  · exact {}
  · exact {}
  · exact h

theorem lineEvent_keeps {act : State → State} {s : State} (h : Keeps s (act s)) :
    Keeps s (lineEvent act s) := by
  rcases lineEvent_cases act s with e | e <;> rw [e]
  · exact {}
  · exact h

/-- A host command keeps what its own rule keeps from the state it is taken in. -/
theorem hostCommandOr_keeps {α : Type} {bad : State → List Byte} {p : Payload α}
    {act : α → State → State} {s : State} (h : ∀ a, Keeps s (act a (emptyLatch s))) :
    Keeps s (hostCommandOr bad p act s) := by
  rcases hostCommandOr_cases bad p act s with e | e | e | e | ⟨a, _, e⟩ <;> rw [e]
  · exact {}
  · exact {}
  · exact answer_keeps _ _ s
  · exact (emptyLatch_keeps s).answer _ _
  · exact h a

theorem hostCommand_keeps {α : Type} {p : Payload α} {act : α → State → State} {s : State}
    (h : ∀ a t, Keeps t (act a t)) : Keeps s (hostCommand p act s) :=
  hostCommandOr_keeps fun a => (emptyLatch_keeps s).trans (h a _)

end Sys2Proof.Machine

/-! PROOF. What each command and event keeps. -/

namespace Sys2Proof.Machine

/-! ### The settings of the timing units -/

/-- Units changed one by one so that their settings stay in range. -/
theorem UnitsSafe.map {c d : Nat} {us : List TimingUnit} (f : TimingUnit → TimingUnit)
    (hf : ∀ t : TimingUnit, (t.settings.InRange c ∧ ∀ n, t.pending = some n → n.InRange c) →
      (f t).settings.InRange d ∧ ∀ n, (f t).pending = some n → n.InRange d)
    (h : UnitsSafe c us) : UnitsSafe d (us.map f) := by
  refine ⟨by rw [List.length_map]; exact h.1, fun t ht => ?_⟩
  obtain ⟨u, hu, rfl⟩ := List.mem_map.mp ht
  exact hf u (h.2 u hu)

/-- Settings brought within a new C are in range for it (R161). -/
theorem UnitSettings.within_inRange {c d : Nat} {u : UnitSettings} (h : u.InRange c) (hd : 2 ≤ d) :
    (u.within d).InRange d := by
  obtain ⟨_, _, hne, hl⟩ := h
  unfold UnitSettings.within UnitSettings.InRange
  dsimp only
  split_ifs <;> refine ⟨?_, ?_, ?_, hl⟩ <;> dsimp only <;> omega

theorem atNewC_inRange {c d : Nat} (hd : 2 ≤ d) (t : TimingUnit)
    (h : t.settings.InRange c ∧ ∀ n, t.pending = some n → n.InRange c) :
    (t.atNewC d).settings.InRange d ∧ ∀ n, (t.atNewC d).pending = some n → n.InRange d := by
  refine ⟨UnitSettings.within_inRange h.1 hd, fun n hn => ?_⟩
  obtain ⟨m, hm, rfl⟩ := Option.map_eq_some_iff.mp hn
  exact UnitSettings.within_inRange (h.2 m hm) hd

theorem atReset_inRange {c d : Nat} (t : TimingUnit)
    (h : t.settings.InRange c ∧ ∀ n, t.pending = some n → n.InRange c) :
    (t.atReset d).settings.InRange c ∧ ∀ n, (t.atReset d).pending = some n → n.InRange c := by
  refine ⟨?_, nofun⟩
  show (t.pending.getD t.settings).InRange c
  cases e : t.pending with
  | none => exact h.1
  | some n => exact h.2 n e

/-- The values SET UNIT uses are in range, where they are not equal (R160). -/
theorem unitUsed_inRange {g : Geometry} (f : UnitFields) (hc : 0 < g.c)
    (hne : (unitUsed g f).on ≠ (unitUsed g f).off) : (unitSettings (unitUsed g f)).InRange g.c := by
  refine ⟨?_, ?_, hne, ?_⟩
  · show min (g.c - 1) f.on < g.c
    omega
  · show min (g.c - 1) f.off < g.c
    omega
  · show (if isPulse f.unit then min 50000 f.latency else 0) ≤ 50000
    split <;> omega

/-- Units in range show that C is not 0. -/
theorem UnitsSafe.c_pos {c : Nat} {us : List TimingUnit} (h : UnitsSafe c us) : 0 < c := by
  obtain ⟨hl, hu⟩ := h
  cases us with
  | nil => exact absurd hl (by decide)
  | cons u us => exact Nat.zero_lt_of_lt (hu u List.mem_cons_self).1.1

/-! ### The setting commands -/

/-- The lead range under a cap stays a range, and the lead stays in it (R103). -/
theorem LeadSafe.lowered {c : Carrier} (h : LeadSafe c) (cap : Nat) : LeadSafe (c.lowered cap) := by
  obtain ⟨h1, h2, hrest⟩ := h
  exact ⟨min_le_min_left cap h1, min_le_min_left cap h2, hrest⟩

/-- A lead range from 4 up to a cap that the carrier offset allows (R50, R103). -/
theorem PrinterSafe.lowered {c : Carrier} (h : PrinterSafe c) {cap : Nat} (hc : 4 ≤ cap) :
    PrinterSafe (c.lowered cap) := by
  obtain ⟨⟨h1, h2, h3⟩, hrest⟩ := h
  exact ⟨⟨le_min hc h1, min_le_min_left cap h2, (min_le_right _ _).trans h3⟩, hrest⟩

/-- A station map replaced: the lead range is lowered, and units at a new C are in range for it. -/
theorem Keeps.withGeometry {s : State} {g : Geometry} {l : LineUnit} {us : List TimingUnit}
    (hc : 100 ≤ g.c ∧ g.c ≤ 2000) (hg : g.isSet = true) (hcOff : 2 ≤ g.cOff)
    (hl : ∃ i b, l = { s.line with inPitch := i, backlash := b })
    (hi : PhaseSafe s → l.inPitch < g.c)
    (hu : UnitsSafe s.geometry.c s.units → UnitsSafe g.c us) :
    Keeps s
      { s with geometry := g, line := l, units := us, carrier := s.carrier.lowered (leadCap g) } := by
  obtain ⟨i, b, rfl⟩ := hl
  have hcap : leadCap g = min 32 (4 * (g.cOff - 1)) := if_pos hg
  refine { phase := hi, lead := fun h => h.lowered _, settings := ?_ }
  intro ⟨h1, h2, h3, h4, h5, h6, h7, h8, h9, h10, h11, h12, h13, h14, h15, h16, h17⟩
  refine ⟨h1, h2, h3, h4, h5, h6.lowered (by rw [hcap]; omega), fun _ => ⟨hcOff, ?_⟩, h8, h9, h10, h11,
    h12, h13, h14, hc, hu h16, h17⟩
  exact (min_le_left _ _).trans (hcap.le.trans (min_le_right _ _))

/-- The checks of R50 that the settings need. -/
theorem geometryInRange_bounds {f : GeometryFields} (h : geometryInRange f = true) :
    (100 ≤ f.c ∧ f.c ≤ 2000) ∧ 2 ≤ f.cOff := by
  simp only [geometryInRange, inRange, Bool.and_eq_true, decide_eq_true_eq] at h
  tauto

theorem setGeometry_keeps (f : GeometryFields) (s : State) : Keeps s (setGeometry f s) := by
  unfold setGeometry
  refine Keeps.ite _ (fun _ => answer_keeps _ _ s) (fun _ => ?_)
  refine Keeps.ite _ (fun hf => Keeps.answer _ _ ?_) (fun _ => answer_keeps _ _ s)
  obtain ⟨hc, hcOff⟩ := geometryInRange_bounds (Bool.and_eq_true _ _ ▸ hf).1
  unfold bringWithin
  by_cases he : f.c = s.geometry.c
  · have he' : (geometryOf f).c = s.geometry.c := he
    rw [if_pos he']
    exact Keeps.withGeometry (l := s.line) (us := s.units) hc rfl hcOff ⟨_, _, rfl⟩
      (fun h => lt_of_lt_of_eq h he'.symm) (fun h => he' ▸ h)
  · rw [if_neg (show (geometryOf f).c ≠ s.geometry.c from he)]
    exact Keeps.withGeometry (l := { s.line with inPitch := 0, backlash := 0 }) hc rfl hcOff ⟨_, _, rfl⟩
      (fun _ => lt_of_lt_of_le (Nat.zero_lt_succ 99) hc.1)
      (fun h => h.map _ (atNewC_inRange (Nat.le_trans (by decide) hc.1)))

/-- The planner's settings replaced, and the nominal values of the QUEUED records computed again. -/
theorem recompute_keeps {s t : State} (h : Keeps s t) : Keeps s (recompute t) :=
  h.trans (BlockStep.keeps (mapRecords_step _ (fun r => by split <;> rfl) t) (mapRecords_stock _ t))

theorem setProduct_keeps (f : ProductFields) (s : State) : Keeps s (setProduct f s) := by
  unfold setProduct
  refine Keeps.ite _ (fun _ => answer_keeps _ _ s) (fun _ => ?_)
  refine Keeps.ite _ (fun hf => Keeps.answer _ _ (recompute_keeps ?_)) (fun _ => answer_keeps _ _ s)
  refine { settings := ?_ }
  intro ⟨h1, h2, h3, h4, h5, h6, h7, h8, h9, h10, h11, _, _, hrest⟩
  exact ⟨h1, h2, h3, h4, h5, h6, h7, h8, h9, h10, h11, (productInRange_iff f).mp hf, rfl, hrest⟩

theorem setInsert_keeps (f : InsertFields) (s : State) : Keeps s (setInsert f s) := by
  unfold setInsert
  refine Keeps.ite _ (fun _ => answer_keeps _ _ s) (fun _ => ?_)
  refine Keeps.ite _ (fun hf => Keeps.answer _ _ (recompute_keeps ?_)) (fun _ => answer_keeps _ _ s)
  obtain ⟨_, hmass, hthick⟩ := (insertInRange_iff f).mp hf
  refine { settings := ?_ }
  intro ⟨h1, h2, h3, h4, h5, h6, h7, h8, h9, h10, h11, h12, h13, ⟨hl, hi⟩, hrest⟩
  refine ⟨h1, h2, h3, h4, h5, h6, h7, h8, h9, h10, h11, h12, h13, ⟨?_, fun i hm => ?_⟩, hrest⟩
  · exact (List.length_set).trans hl
  · rcases List.mem_or_eq_of_mem_set hm with hm | rfl
    · exact hi i hm
    · exact ⟨hmass, hthick⟩

theorem setBundleLimits_keeps (f : BundleLimitFields) (s : State) : Keeps s (setBundleLimits f s) := by
  unfold setBundleLimits
  refine Keeps.ite _ (fun _ => Keeps.answer _ _ ?_) (fun _ => answer_keeps _ _ s)
  refine { settings := ?_ }
  intro ⟨_, _, hrest⟩
  refine ⟨?_, ?_, hrest⟩
  · show 1 ≤ nmaxUsed f.nmax ∧ nmaxUsed f.nmax ≤ 256
    unfold nmaxUsed
    split <;> omega
  · exact ⟨le_bringInto (by decide) _, bringInto_le _ _ _⟩

theorem setRemake_keeps (f : RemakeFields) (s : State) : Keeps s (setRemake f s) := by
  refine Keeps.answer _ _ { settings := ?_ }
  intro ⟨h1, h2, _, _, _, hrest⟩
  exact ⟨h1, h2, ⟨le_bringInto (by decide) _, bringInto_le _ _ _⟩, min_le_left _ _,
    ⟨le_bringInto (by decide) _, bringInto_le _ _ _⟩, hrest⟩

/-- The carried order of the lead limits is that of the used ones (R103). -/
theorem bringInto_mono {lo hi m n : Nat} (h : m ≤ n) : bringInto lo hi m ≤ bringInto lo hi n :=
  min_le_min_left _ (max_le_max_left _ h)

theorem setPrinter_keeps (f : PrinterFields) (s : State) : Keeps s (setPrinter f s) := by
  unfold setPrinter
  refine Keeps.ite _ (fun _ => answer_keeps _ _ s) (fun hf => Keeps.answer _ _ ?_)
  have range : (printerUsed s.geometry f).lmin ≤ (printerUsed s.geometry f).lmax :=
    bringInto_mono (Nat.le_of_not_lt hf)
  refine { lead := ?_, settings := ?_ }
  · intro ⟨_, _, hrest⟩
    exact ⟨le_bringInto range _, bringInto_le _ _ _, hrest⟩
  · intro ⟨h1, h2, h3, h4, h5, _, h7, hrest⟩
    have cap : 4 ≤ leadCap s.geometry ∧ leadCap s.geometry ≤ 32
        ∧ (s.geometry.isSet = true → leadCap s.geometry ≤ 4 * (s.geometry.cOff - 1)) := by
      unfold leadCap
      split
      next hg => have := h7 hg; omega
      next hg => exact ⟨by decide, le_refl _, fun k => absurd k hg⟩
    refine ⟨h1, h2, h3, h4, h5, ⟨⟨?_, range, ?_⟩, ?_, ?_, ?_, ?_⟩, fun hg => ⟨(h7 hg).1, ?_⟩, hrest⟩
    · exact le_bringInto cap.1 _
    · exact (bringInto_le _ _ _).trans cap.2.1
    · exact ⟨le_bringInto (by decide) _, bringInto_le _ _ _⟩
    · exact ⟨le_bringInto (by decide) _, bringInto_le _ _ _⟩
    · exact ⟨le_bringInto (by decide) _, bringInto_le _ _ _⟩
    · exact min_le_left _ _
    · exact (bringInto_le _ _ _).trans (cap.2.2 hg)

theorem setUnit_keeps (f : UnitFields) (s : State) : Keeps s (setUnit f s) := by
  unfold setUnit
  refine Keeps.ite _ (fun _ => answer_keeps _ _ s) (fun hf => ?_)
  have range (h : UnitsSafe s.geometry.c s.units) :
      (unitSettings (unitUsed s.geometry f)).InRange s.geometry.c :=
    unitUsed_inRange f h.c_pos (fun e => hf (.inr e))
  refine Keeps.ite _ (fun _ => Keeps.answer _ _ ?_) (fun _ => Keeps.answer _ _ ?_)
  · have g : ∀ b, (freshGauge b s).geometry = s.geometry ∧ (freshGauge b s).units = s.units := by
      intro b
      unfold freshGauge
      split <;> exact ⟨rfl, rfl⟩
    refine ((freshGauge_keeps _ s).trans (BlockStep.keeps ?_ (writeUnit_stock _ _ _))).trans
      (settle_keeps _)
    refine writeUnit_step _ _ _ ?_
    rw [(g _).1, (g _).2]
    exact range
  · refine BlockStep.keeps { units := fun h => ?_ } (updateUnit_stock _ _ s)
    exact UnitsSafe.modify (fun t => { t with pending := some (unitSettings (unitUsed s.geometry f)) })
      (fun t ht => ⟨ht.1, fun n e => Option.some.inj e ▸ range h⟩) _ h

theorem setHold_keeps (f : HoldFields) (s : State) : Keeps s (setHold f s) := by
  refine Keeps.answer _ _ (Keeps.trans ?_ (passTime_keeps 0 _))
  refine { settings := ?_ }
  intro ⟨h1, h2, h3, h4, h5, h6, h7, _, _, _, hrest⟩
  exact ⟨h1, h2, h3, h4, h5, h6, h7, min_le_left _ _, min_le_left _ _,
    ⟨le_bringInto (by decide) _, bringInto_le _ _ _⟩, hrest⟩

end Sys2Proof.Machine

/-! PROOF. What each command and event keeps: jobs, line commands, resets, records, stock and events. -/

namespace Sys2Proof.Machine

/-! ### Jobs -/

theorem execJobSetup_keeps (f : JobFields) (s : State) : Keeps s (jobSetup f s) := by
  unfold jobSetup
  refine Keeps.ite _ (fun _ => answer_keeps _ _ s) (fun _ => Keeps.answer _ _ ?_)
  refine { settings := ?_ }
  intro ⟨h1, h2, h3, h4, h5, h6, h7, h8, h9, h10, h11, h12, h13, h14, h15, h16, _, h18⟩
  refine ⟨h1, h2, h3, h4, h5, h6, h7, h8, h9, h10, h11, h12, h13, h14, h15, h16, ?_, h18⟩
  intro low start e
  cases e
  exact ⟨min_le_left _ _, le_bringInto (by decide) _, bringInto_le _ _ _⟩

/-- JOB CONFIRM begins with the values of the setup it found, which are in their range. -/
theorem jobConfirm_keeps (s : State) : Keeps s (jobConfirm s.host.latch (emptyLatch s)) := by
  unfold jobConfirm
  split
  next low start e =>
    refine { settings := ?_ }
    intro ⟨h1, h2, h3, h4, h5, h6, h7, h8, h9, h10, h11, h12, h13, h14, h15, h16, hj, _⟩
    refine ⟨h1, h2, h3, h4, h5, h6, h7, h8, h9, h10, h11, h12, h13, h14, h15, h16, nofun, ?_⟩
    intro l t k
    cases k
    exact hj low start e
  all_goals exact (emptyLatch_keeps s).answer _ _

theorem clearConfirm_keeps (held : SetupLatch) (s : State) : Keeps s (clearConfirm held s) := by
  unfold clearConfirm
  split
  · refine Keeps.ite _ (fun _ => ?_) (fun _ => answer_keeps _ _ s)
    refine { settings := ?_ }
    intro ⟨h1, h2, h3, h4, h5, h6, h7, h8, h9, h10, h11, h12, h13, h14, h15, h16, hj, _⟩
    exact ⟨h1, h2, h3, h4, h5, h6, h7, h8, h9, h10, h11, h12, h13, h14, h15, h16, hj, nofun⟩
  all_goals exact answer_keeps _ _ s

theorem clearSetup_keeps (s : State) : Keeps s (clearSetup s) := by
  unfold clearSetup
  refine Keeps.ite _ (fun _ => Keeps.answer _ _ ?_) (fun _ => answer_keeps _ _ s)
  refine { settings := ?_ }
  intro ⟨h1, h2, h3, h4, h5, h6, h7, h8, h9, h10, h11, h12, h13, h14, h15, h16, _, h18⟩
  exact ⟨h1, h2, h3, h4, h5, h6, h7, h8, h9, h10, h11, h12, h13, h14, h15, h16, nofun, h18⟩

/-! ### RUN, PAUSE and DRAIN -/

theorem startOrHold_keeps (s : State) (hs : s.line.state ≠ .faulted) : Keeps s (startOrHold s) := by
  refine Keeps.ite _ (fun _ => (startMoving_motion s hs).keeps (startMoving_stock s)) (fun _ => ?_)
  exact (enterLine_motion _ s (fun l => l.enter .holding hs nofun nofun nofun nofun)).keeps
    (StockStep.withLine _ s)

/-- The line unit as RUN finds it in FAULTED, with its causes emptied, starts as from STOPPED. -/
def unfaulted (s : State) : State :=
  { s with line := { s.line with state := .stopped, first := none, further := 0 } }

theorem startOrHold_clearCauses {s : State} (hs : s.line.state = .faulted) :
    startOrHold (clearCauses s) = startOrHold (unfaulted s) := by
  have he (t : LineState) (h1 : t ≠ .faulted) (h2 : t ≠ .stopped) :
      enterLine t (clearCauses s) = enterLine t (unfaulted s) := by
    simp [enterLine, LineUnit.enter, clearCauses, unfaulted, hs, h1.symm, h2.symm, LineState.moving]
  have hm : movingState (clearCauses s) ≠ .faulted ∧ movingState (clearCauses s) ≠ .stopped := by
    unfold movingState
    split <;> exact ⟨nofun, nofun⟩
  simp only [startOrHold, startMoving]
  rw [he .holding nofun nofun, he _ hm.1 hm.2]
  rfl

theorem unfaulted_keeps {s : State} (hs : s.line.state = .faulted) : Keeps s (unfaulted s) where
  line := fun ⟨_, _, h3, h4, h5, _⟩ => by
    simp only [hs, LineState.moving] at h3 h4 h5
    exact ⟨by simp [unfaulted], fun _ => rfl, h3, h4, h5, nofun, nofun, nofun⟩

theorem runLine_keeps (s : State) : Keeps s (runLine s) := by
  unfold runLine
  split
  · exact answer_keeps _ _ s
  next hs =>
    exact Keeps.ite _ (fun _ => answer_keeps _ _ s)
      (fun _ => (startOrHold_keeps s (by rw [hs]; decide)).answer _ _)
  next hs =>
    refine Keeps.ite _ (fun _ => answer_keeps _ _ s) (fun _ => Keeps.answer _ _ ?_)
    rw [startOrHold_clearCauses hs]
    exact (unfaulted_keeps hs).trans (startOrHold_keeps _ nofun)
  next hs => exact Keeps.answer _ _ { line := fun ⟨h1, h2, _, hrest⟩ => ⟨h1, h2, nofun, hrest⟩ }
  next hs => exact Keeps.answer _ _ { line := fun ⟨h1, h2, _, hrest⟩ => ⟨h1, h2, nofun, hrest⟩ }
  · exact answer_keeps _ _ s

theorem stopLine_keeps (s : State) (hs : s.line.state ≠ .faulted) : Keeps s (stopLine .stopped s) :=
  (stopLine_motion _ s (fun l => l.enter .stopped hs nofun nofun nofun nofun)).keeps (stopLine_stock _ s)

theorem pauseLine_keeps (s : State) : Keeps s (pauseLine s) := by
  unfold pauseLine
  split
  next hs =>
    exact Keeps.answer _ _ { line := fun ⟨h1, h2, _, hrest⟩ =>
      ⟨h1, h2, fun _ => by simp [hs, LineState.moving], hrest⟩ }
  next hs =>
    exact Keeps.answer _ _ { line := fun ⟨h1, h2, _, hrest⟩ =>
      ⟨h1, h2, fun _ => by simp [hs, LineState.moving], hrest⟩ }
  next hs =>
    refine ((freshGauge_keeps _ s).trans (stopLine_keeps _ ?_)).answer _ _
    have : ∀ b, (freshGauge b s).line = s.line := by intro b; unfold freshGauge; split <;> rfl
    rw [this, hs]
    decide
  all_goals exact answer_keeps _ _ s

theorem drainTest_keeps (s : State) : Keeps s (drainTest s) :=
  (drainTest_motion s).keeps (drainTest_stock s)

/-- The drain flag may be set in any state but RUNNING and IDLE. -/
theorem setDrain_keeps (s : State) (hr : s.line.state ≠ .running) (hi : s.line.state ≠ .idle) :
    Keeps s (setDrain s) where
  line := fun ⟨h1, h2, h3, h4, h5, _⟩ =>
    ⟨h1, h2, h3, h4, h5, fun _ => rfl, fun k => absurd k hr, fun k => absurd k hi⟩

theorem drainLine_keeps (s : State) : Keeps s (drainLine s) := by
  unfold drainLine
  split
  next hs =>
    refine (Keeps.trans ?_ (drainTest_keeps _)).answer _ _
    exact { line := fun ⟨h1, h2, _, _, _, _⟩ =>
      ⟨⟨fun k => absurd (h1.mp k) (by rw [hs]; decide), nofun⟩, fun _ => h2 (by rw [hs]; decide),
        fun _ => rfl, fun _ => rfl, fun _ => rfl, fun _ => rfl, nofun, nofun⟩ }
  next hs =>
    refine Keeps.ite _ (fun _ => answer_keeps _ _ s) (fun _ => Keeps.answer _ _ ?_)
    have hf : (setDrain s).line.state ≠ .faulted := by rw [setDrain_line_state, hs]; decide
    exact (setDrain_keeps s (by rw [hs]; decide) (by rw [hs]; decide)).trans
      ((startMoving_motion _ hf).keeps (startMoving_stock _))
  next hs => exact (setDrain_keeps s (by rw [hs]; decide) (by rw [hs]; decide)).answer _ _
  next hs => exact (setDrain_keeps s (by rw [hs]; decide) (by rw [hs]; decide)).answer _ _
  all_goals exact answer_keeps _ _ s

end Sys2Proof.Machine

/-! PROOF. What each command and event keeps: resets, completions, records, stock, pins and links; and
the statements about every step. -/

namespace Sys2Proof.Machine

/-! ### Resets and completions -/

/-- The line unit with its job over, in a state without causes and without DRIVE-ON. -/
theorem LineSafe.cleared_enter {l : LineUnit} (h : LineSafe l) {t : LineState} (hf : t ≠ .faulted)
    (hm : t.moving = false) : LineSafe (l.enter t).cleared := by
  obtain ⟨-, -, -, hperiod, hmark, -⟩ := h
  have untimed {o : Option Nat} (ho : o.isSome = true → l.state.moving = true) :
      (if l.state.moving != t.moving then none else o).isSome = false := by
    cases ht : l.state.moving <;> simp_all
  refine ⟨⟨nofun, fun k => absurd k hf⟩, fun _ => rfl, nofun, fun k => ?_, fun k => ?_, fun k => ?_,
    fun k => ?_, fun _ => rfl⟩
  · exact absurd k (Bool.eq_false_iff.mp (untimed hperiod))
  · exact absurd k (Bool.eq_false_iff.mp (untimed hmark))
  all_goals exact absurd hm (by rw [show t = _ from k]; decide)

theorem LineSafe.zeroed {l : LineUnit} (h : LineSafe l) : LineSafe l.zeroed := by
  obtain ⟨h1, h2, h3, _, _, hrest⟩ := h
  exact ⟨h1, h2, h3, nofun, nofun, hrest⟩

theorem LeadSafe.restart {c : Carrier} (h : c.lmin ≤ c.lmax) : LeadSafe c.restart :=
  ⟨le_bringInto h _, bringInto_le _ _ _, Nat.zero_lt_succ 3, Nat.zero_lt_succ 15, le_refl 0⟩

theorem LeadSafe.range {c : Carrier} (h : LeadSafe c) : c.lmin ≤ c.lmax := h.1.trans h.2.1

theorem emptied_bundleSafe (t : State) (hb : t.stacker.bundles = [])
    (hp : t.planner.plans = List.replicate Config.planSlots none) : BundleSafe t := by
  simp [BundleSafe, hb, hp, Config.bundleSlots]

theorem Keeps.withTracking (x : Tracking) (s : State) : Keeps s { s with tracking := x } := {}

theorem produceCancelAll_keeps (s : State) : Keeps s (produceCancelAll s) :=
  Keeps.trans (t := { s with carrier := { s.carrier with waiting := [] } }) {}
    ((produce_step _ _).keeps (produce_stock _ _))

theorem atConfirm_units {c : Nat} {us : List TimingUnit} (h : UnitsSafe c us) :
    UnitsSafe c (us.map TimingUnit.atConfirm) := h.map _ (fun _ k => k)

theorem stopLine_line (t : LineState) (s : State) : (stopLine t s).line = s.line.enter t :=
  (applyPending_step _).line

/-- What a stop keeps, whatever becomes of the relations of the line unit. -/
structure Stopped (s u : State) : Prop where
  pending : u.pending = s.pending
  phase : PhaseSafe s → PhaseSafe u
  store : StoreSafe s → StoreSafe u
  lead : LeadSafe s.carrier → LeadSafe u.carrier
  settings : SettingsSafe s → SettingsSafe u

theorem stopLine_stopped (t : LineState) (s : State) : Stopped s (stopLine t s) := by
  have entered : Stopped s (enterLine t s) := ⟨rfl, id, id, id, id⟩
  have hk : Keeps (enterLine t s) (stopLine t s) :=
    (applyPending_step _).keeps (applyPending_stock _)
  exact
    { pending := hk.pending, phase := fun h => hk.phase (entered.phase h),
      store := fun h => hk.store (entered.store h), lead := fun h => hk.lead (entered.lead h),
      settings := fun h => hk.settings (entered.settings h) }

theorem resetCommand_keeps (s : State) : Keeps s (resetCommand s) := by
  refine Keeps.trans (t := resetBlocks s) ?_ (Keeps.withHost _ _ (.inr rfl) (.inr rfl))
  refine Keeps.trans ?_ (produceCancelAll_keeps _)
  refine { line := fun h => ?_, store := fun _ => ?_, bundles := fun _ => emptied_bundleSafe _ rfl rfl,
           lead := fun h => LeadSafe.restart h.range, settings := ?_ }
  · exact ⟨⟨nofun, nofun⟩, fun _ => rfl, nofun, nofun, nofun, nofun, nofun, fun _ => rfl⟩
  · exact ⟨List.nodup_nil, Nat.zero_le _⟩
  · intro ⟨h1, h2, h3, h4, h5, h6, h7, h8, h9, h10, h11, h12, h13, h14, h15, h16, h17⟩
    exact ⟨h1, h2, h3, h4, h5, h6, h7, h8, h9, h10, h11, h12, h13, h14, h15,
      h16.map _ atReset_inRange, h17⟩

theorem clearBlocks_keeps (s : State) : Keeps s (clearBlocks s) := by
  refine (Keeps.withTracking { s.tracking with pieces := [] } s).trans ?_
  unfold clearBlocks
  generalize { s with tracking := { s.tracking with pieces := [] } } = v
  have hu := stopLine_stopped .idle v
  have hline := stopLine_line .idle v
  generalize stopLine .idle v = u at hu hline
  refine Keeps.trans ?_ (produceCancelAll_keeps _)
  refine { pending := hu.pending, line := fun h => ?_, phase := hu.phase,
           store := fun _ => ⟨List.nodup_nil, Nat.zero_le _⟩,
           bundles := fun _ => emptied_bundleSafe _ rfl rfl,
           lead := fun h => LeadSafe.restart (hu.lead h).range, settings := fun h => ?_ }
  · show LineSafe u.line.cleared
    rw [hline]
    exact h.cleared_enter (t := .idle) nofun rfl
  · obtain ⟨h1, h2, h3, h4, h5, h6, h7, h8, h9, h10, h11, h12, h13, h14, h15, h16, h17⟩ := hu.settings h
    exact ⟨h1, h2, h3, h4, h5, h6, h7, h8, h9, h10, h11, h12, h13, h14, h15, atConfirm_units h16, h17⟩

theorem clearConfirmCompletion_keeps (s : State) : Keeps s (clearConfirmCompletion s) := by
  unfold clearConfirmCompletion
  split
  · have h := clearBlocks_keeps s
    unfold completeClear
    generalize clearBlocks s = u at h
    exact h.trans (Keeps.withHost u
      { u.host with slot := .formed .ok (le 2 (freeCount u)), operation := none, cleared := true }
      (.inl rfl) (.inr rfl))
  all_goals exact Keeps.refl s

/-- JOB CONFIRM puts values in force that are in the range of a setup. -/
theorem jobBlocks_keeps {low start : Nat} {s : State} (hs : SettingsSafe s → setupInRange low start) :
    Keeps s (jobBlocks low start s) := by
  refine (Keeps.withTracking Tracking.initial s).trans ?_
  have hs' : SettingsSafe { s with tracking := Tracking.initial } → setupInRange low start := hs
  unfold jobBlocks
  generalize { s with tracking := Tracking.initial } = v at hs'
  have hu := stopLine_stopped .stopped v
  have hline := stopLine_line .stopped v
  generalize stopLine .stopped v = u at hu hline
  refine { pending := hu.pending, line := fun h => ?_, phase := hu.phase, store := fun h => ?_,
           bundles := fun _ => emptied_bundleSafe _ rfl rfl,
           lead := fun h => LeadSafe.restart (c := { u.carrier with start := start }) (hu.lead h).range,
           settings := fun h => ?_ }
  · show LineSafe u.line.cleared.zeroed
    rw [hline]
    exact (h.cleared_enter (t := .stopped) nofun rfl).zeroed
  · refine (hu.store h).of_keys ?_
    show (List.map _ (List.map Record.unplan _)).Sublist _
    rw [List.map_map]
    exact List.Sublist.refl _
  · obtain ⟨h1, h2, h3, h4, h5, h6, h7, h8, h9, h10, _, h12, h13, h14, h15, h16, h17⟩ := hu.settings h
    exact ⟨h1, h2, h3, h4, h5, h6, h7, h8, h9, h10, hs' h, h12, h13, h14, h15, atConfirm_units h16, h17⟩

theorem jobConfirmCompletion_keeps (s : State) : Keeps s (jobConfirmCompletion s) := by
  unfold jobConfirmCompletion
  split
  next low start e =>
    have h : Keeps s (jobBlocks low start s) := jobBlocks_keeps
      fun ⟨_, _, _, _, _, _, _, _, _, _, _, _, _, _, _, _, _, hc⟩ => hc low start e
    unfold completeJob
    generalize jobBlocks low start s = u at h
    exact h.trans (Keeps.withHost u
      { u.host with slot := .formed .ok [], operation := none, cleared := false } (.inl rfl) (.inr rfl))
  all_goals exact Keeps.refl s

/-! ### Records and stock -/

/-- A record that passes the checks of LOAD is new, and there is a slot for it (R11). -/
theorem loadCause_none {r : LoadRecord} {s : State} (h : loadCause r s = none) :
    findRecord s r.key = none ∧ s.store.length < Config.storeSlots := by
  unfold loadCause at h
  split at h
  · exact absurd h nofun
  split at h
  · exact absurd h nofun
  next hd =>
    split at h
    · exact absurd h nofun
    split at h
    · exact absurd h nofun
    next hf =>
      simp only [freeCount] at hf
      exact ⟨by simpa using hd, by omega⟩

theorem acceptRecord_keeps {r : LoadRecord} {s : State} (h : loadCause r s = none) :
    Keeps s (acceptRecord r s) := by
  obtain ⟨hnew, hroom⟩ := loadCause_none h
  refine { store := fun ⟨hn, _⟩ => ⟨?_, ?_⟩ }
  · simp only [acceptRecord, List.map_append, List.map_cons, List.map_nil]
    refine List.nodup_append.mpr ⟨hn, List.nodup_singleton _, fun a ha b hb e => ?_⟩
    obtain ⟨q, hq, rfl⟩ := List.mem_map.mp ha
    have hne := List.find?_eq_none.mp hnew q hq
    rw [List.mem_singleton.mp hb] at e
    exact hne (beq_iff_eq.mpr e)
  · simpa [acceptRecord] using hroom

theorem loadFrom_keeps (rs : List LoadRecord) : ∀ n s, Keeps s (loadFrom rs n s).1 := by
  induction rs with
  | nil => exact fun _ s => Keeps.refl s
  | cons r rs ih =>
    intro n s
    unfold loadFrom
    split
    · exact Keeps.refl s
    next h => exact (acceptRecord_keeps h).trans (ih _ _)

theorem load_keeps (rs : List LoadRecord) (s : State) : Keeps s (load rs s) := by
  unfold load
  refine Keeps.ite _ (fun _ => answer_keeps _ _ s) (fun _ => ?_)
  exact Keeps.ite _ (fun _ => answer_keeps _ _ s) (fun _ => (loadFrom_keeps rs 0 s).answer _ _)

theorem updateRecord_keeps (k : Nat) (f : Record → Record) (hf : ∀ r, (f r).key = r.key) (s : State) :
    Keeps s (updateRecord k f s) := (updateRecord_step k f hf s).keeps (updateRecord_stock k f s)

theorem find_keeps (k : Nat) (s : State) : Keeps s (find k s) := by
  unfold find
  split <;> exact answer_keeps _ _ s

theorem amend_keeps (f : AmendFields) (s : State) : Keeps s (amend f s) := by
  unfold amend
  split
  · exact answer_keeps _ _ s
  · split
    · exact answer_keeps _ _ s
    · refine (updateRecord_keeps _ _ (fun r => ?_) s).answer _ _
      rw [amended_eq]

theorem withdraw_keeps (k : Nat) (s : State) : Keeps s (withdraw k s) := by
  unfold withdraw
  split
  · exact answer_keeps _ _ s
  next r _ =>
    split
    · exact answer_keeps _ _ s
    · exact ((((freeRecord_step _ s).trans (depart_step _ _)).keeps
        ((freeRecord_stock _ s).trans (depart_stock _ _))).trans (settle_keeps _)).answer _ _
    · split
      · exact answer_keeps _ _ s
      next p _ =>
        refine Keeps.ite _ (fun _ => answer_keeps _ _ s) (fun _ => ?_)
        refine Keeps.ite _ (fun _ => answer_keeps _ _ s) (fun _ => Keeps.answer _ _ ?_)
        exact ((updateRecord_keeps _ _ (fun _ => by rfl) s).trans
          ((cancelJob_step p _).keeps (cancelJob_stock p _))).trans (settle_keeps _)
    all_goals exact answer_keeps _ _ s

theorem readBundle_keeps (f : BundleReadFields) (s : State) : Keeps s (readBundle f s) := by
  unfold readBundle
  split
  · exact answer_keeps _ _ s
  · exact Keeps.ite _ (fun _ => answer_keeps _ _ s) (fun _ => answer_keeps _ _ s)

theorem freeRecords_keeps (ks : List Nat) (s : State) : Keeps s (freeRecords ks s) :=
  (freeRecords_step ks s).keeps (freeRecords_stock ks s)

theorem releaseBundle_keeps (n : Nat) (s : State) : Keeps s (releaseBundle n s) := by
  unfold releaseBundle
  split
  · exact answer_keeps _ _ s
  next b _ =>
    refine Keeps.ite _ (fun _ => Keeps.answer _ _ ?_) (fun _ => answer_keeps _ _ s)
    have order (u : State) (l : List Nat) :
        Keeps u { u with stacker := { u.stacker with closedOrder := l } } := {}
    exact (((updateOrdinal_step _ _ s).keeps (updateOrdinal_stock _ _ s)).trans
      (((eraseBundle_step _ _).keeps (eraseBundle_stock _ _)).trans ((freeRecords_keeps _ _).trans
        (order _ _)))).trans ((retirementTest_step _ _).keeps (retirementTest_stock _ _))

theorem releaseExceptions_keeps (n : Nat) (s : State) : Keeps s (releaseExceptions n s) := by
  unfold releaseExceptions
  refine Keeps.ite _ (fun _ => answer_keeps _ _ s) (fun _ => Keeps.answer _ _ ?_)
  exact Keeps.trans
    (t := { s with stacker := { s.stacker with exceptions := s.stacker.exceptions.drop n } }) {}
    (freeRecords_keeps _ _)

/-! ### Pins and the encoder -/

/-- Settles O55. -/
theorem resetStateIsSafe : Obligations.ResetStateIsSafe := by
  refine ⟨?line, ?phase, ?store, ?bundles, ?lead, ?settings⟩
  case line => simp [LineSafe, State.reset]
  case phase => exact (by decide : 0 < 400)
  case store => exact ⟨List.nodup_nil, Nat.zero_le _⟩
  case bundles => simp [BundleSafe, State.reset, Config.planSlots]
  case lead => simp [LeadSafe, State.reset]
  case settings =>
    simp [SettingsSafe, PrinterSafe, ProductSafe, UnitsSafe, UnitSettings.InRange, setupInRange,
      State.reset, Geometry.unset, Product.initial, InsertSettings.initial, TimingUnit.initial, filmMassOf,
      Config.unitCount]

theorem pinResetRelease_keeps (s : State) : Keeps s (pinResetRelease s) := by
  obtain ⟨hline, hphase, hstore, hbundles, hlead, hsettings⟩ := resetStateIsSafe
  exact
    { line := fun _ => hline, phase := fun _ => hphase, store := fun _ => hstore,
      bundles := fun _ => hbundles, lead := fun _ => hlead, settings := fun _ => hsettings }

/-- The counts of a mark (R47). -/
theorem countPitch_keeps (s : State) : Keeps s (countPitch s) :=
  { line := countPitch_safe s, phase := fun h => Nat.zero_lt_of_lt h }

theorem pitchMark_keeps (order : List MarkEvent) (s : State) : Keeps s (pitchMark order s) :=
  ((countPitch_keeps s).trans ((beginPitch_step _).keeps (beginPitch_stock _))).trans
    ((pitchMark_motion order s).keeps
      ((StockStep.foldl _ (markEvent_stock _) _ _).trans
        ((drainTest_stock _).trans ((StockStep.foldl unitPhaseZero unitPhaseZero_stock _ _).trans
          ((changeAtMark_stock _ _).trans (endMark_stock _))))))

theorem forwardCount_keeps (order : List MarkEvent) (s : State) : Keeps s (forwardCount order s) := by
  unfold forwardCount
  refine Keeps.ite _ (fun _ => {}) (fun _ => Keeps.ite _ (fun _ => pitchMark_keeps _ s) (fun hc => ?_))
  refine Keeps.trans (t := { s with line := { s.line with inPitch := s.line.inPitch + 1 } })
    { phase := fun _ => Nat.lt_of_not_le hc } ?_
  exact ((phaseReached_step _ _).keeps (phaseReached_stock _ _)).trans (settle_keeps _)

theorem reverseCount_keeps (s : State) : Keeps s (reverseCount s) := by
  refine Keeps.trans (t := { s with line := { s.line with backlash := raise top16 s.line.backlash } }) {} ?_
  exact Keeps.ite _ (fun _ => takeFault_keeps _ _) (fun _ => Keeps.refl _)

theorem setFaultInput_keeps (f : FaultInput) (b : Bool) (s : State) : Keeps s (setFaultInput f b s) := by
  cases f <;> exact {}

theorem clearEdge_keeps (p : PocketId) (s : State) : Keeps s (clearEdge p s) := by
  unfold clearEdge
  split
  · exact Keeps.refl s
  · exact Keeps.ite _ (fun _ => ((completeEjection_step _ s).keeps (completeEjection_stock _ s)).trans
      (settle_keeps _)) (fun _ => Keeps.refl s)

theorem setEjectTimer_keeps (p : PocketId) (t : EjectTimer) (s : State) :
    Keeps s (setEjectTimer p t s) := (setEjectTimer_step p t s).keeps (setEjectTimer_stock p t s)

theorem pocketJam_keeps (p : PocketId) (s : State) : Keeps s (pocketJam p s) := by
  unfold pocketJam
  exact Keeps.ite _ (fun _ => (setEjectTimer_keeps _ _ s).trans
    ((setEjectTimer_keeps _ _ _).trans (takeFault_keeps _ _))) (fun _ => Keeps.refl s)

theorem holdTimeout_keeps (s : State) : Keeps s (holdTimeout s) := by
  unfold holdTimeout
  have timer (t : MsTimer) : Keeps s { s with line := { s.line with holdTimer := t } } := {}
  exact Keeps.ite _ (fun _ => (timer _).trans (takeFault_keeps _ _)) (fun _ => Keeps.refl s)

/-! ### The serial links -/

theorem accept_keeps (n : BitVec 16) (s : State) : Keeps s (accept n s) :=
  Keeps.ite _ (fun _ => (((updatePiece_step _ _ s).trans (updatePrinterWait_step _)).keeps
    ((updatePiece_stock _ _ s).trans (updatePrinterWait_stock _))).trans (settle_keeps _))
    (fun _ => Keeps.refl s)

theorem resolveJob_keeps (n : BitVec 16) (j : JobState) (s : State) : Keeps s (resolveJob n j s) :=
  (resolveJob_step n j s).keeps (resolveJob_stock n j s)

theorem printed_keeps (n : BitVec 16) (s : State) : Keeps s (printed n s) :=
  Keeps.ite _ (fun _ => (resolveJob_keeps _ _ s).trans (settle_keeps _)) (fun _ => Keeps.refl s)

theorem refuse_keeps (n : BitVec 16) (reason : Nat) (s : State) : Keeps s (refuse n reason s) := by
  have recorded (r : Option Refused) :
      Keeps s { s with carrier := { s.carrier with lastRefusal := r } } := {}
  exact Keeps.ite _ (fun _ => (recorded _).trans ((resolveJob_keeps _ _ _).trans (settle_keeps _)))
    (fun _ => Keeps.refl s)

theorem setReady_keeps (b : Bool) (s : State) : Keeps s (setReady b s) := by
  have ready : Keeps s { s with carrier := { s.carrier with ready := b } } := {}
  exact Keeps.ite _ (fun _ => ready.trans ((dispatch_step _).keeps (dispatch_stock _))) (fun _ => ready)

theorem printerState_keeps (v : Nat) (s : State) : Keeps s (printerState v s) := by
  unfold printerState
  split
  · exact setReady_keeps _ s
  · exact setReady_keeps _ s
  · exact {}

theorem recordDefect_keeps (n : BitVec 16) (c : DefectCause) (d : DefectStation) (s : State) :
    Keeps s (recordDefect n c d s) := {}

theorem gradeEffect_keeps (g : Grade) (n : BitVec 16) (other : Option Piece) (s : State) :
    Keeps s (gradeEffect g n other s) := by
  unfold gradeEffect
  split
  case h_5 =>
    refine Keeps.trans ?_ (takeFault_keeps _ _)
    have first := recordDefect_keeps n .keyMismatch .verify s
    split
    · exact first
    · exact first.trans (recordDefect_keeps _ _ _ _)
  all_goals exact {}

theorem takeRead_keeps (key : Option Nat) (c : Nat) (s : State) : Keeps s (takeRead key c s) := by
  unfold takeRead
  refine Keeps.ite _ (fun _ => {}) (fun _ => ?_)
  split
  · exact {}
  · split
    · exact Keeps.refl s
    next p _ =>
      have judged (f : Piece → Piece) (v : Verify) :
          Keeps s { updatePiece p.number f s with verify := v } := {}
      exact (judged _ _).trans (gradeEffect_keeps _ _ _ _)

theorem stationInputEdge_keeps (l : EdgeInput) (s : State) : Keeps s (stationInputEdge l s) := by
  refine BlockStep.keeps (updateUnit_step _ _ s ?_) (updateUnit_stock _ _ s)
  exact fun _ => ⟨rfl, rfl⟩

/-! ### Every command -/

theorem responseRead_keeps (n : Nat) (s : State) : Keeps s (responseRead n s) :=
  Keeps.trans (t := { s with
      startup := if s.startup.rdyIn.isNone then Startup.over else s.startup }) {}
    (Keeps.withHost _ _ (.inl rfl) (.inl rfl))

theorem setAttention_keeps (b : Byte) (s : State) : Keeps s (setAttention b s) := by
  unfold setAttention
  exact Keeps.ite _ (fun _ => (Keeps.withHost s { s.host with attention := b.truncate 6 } (.inl rfl)
    (.inl rfl)).answer _ _) (fun _ => answer_keeps _ _ s)

theorem snapshot_keeps (f : SnapshotFields) (s : State) : Keeps s (snapshot f s) := by
  unfold snapshot
  exact Keeps.ite _ (fun _ => (Keeps.withHost s (latchItems f s) (.inl rfl) (.inl rfl)).answer _ _)
    (fun _ => answer_keeps _ _ s)

theorem readSnapshot_keeps (s : State) : Keeps s (readSnapshot s) :=
  (Keeps.withHost s (s.host.unlatch _) (.inl rfl) (.inl rfl)).answer _ _

/-- Every command and event ends in a next state and keeps every relation. -/
theorem exec_keeps (c : Instr) (s : State) : ∃ t, exec c s = .next t ∧ Keeps s t := by
  cases c with
  | responseRead n => exact ⟨_, rfl, lineEvent_keeps (responseRead_keeps n s)⟩
  | frameRefused w => exact ⟨_, rfl, takeFrame_keeps ((emptyLatch_keeps s).answer _ _)⟩
  | status p =>
    refine ⟨_, rfl, takeFrame_keeps ?_⟩
    cases p <;> exact answer_keeps _ _ s
  | identify p => exact ⟨_, rfl, hostCommand_keeps fun _ t => answer_keeps _ _ t⟩
  | setGeometry p => exact ⟨_, rfl, hostCommand_keeps setGeometry_keeps⟩
  | setProduct p => exact ⟨_, rfl, hostCommand_keeps setProduct_keeps⟩
  | setInsert p => exact ⟨_, rfl, hostCommand_keeps setInsert_keeps⟩
  | setBundleLimits p => exact ⟨_, rfl, hostCommand_keeps setBundleLimits_keeps⟩
  | setRemake p => exact ⟨_, rfl, hostCommand_keeps setRemake_keeps⟩
  | setPrinter p => exact ⟨_, rfl, hostCommand_keeps setPrinter_keeps⟩
  | setUnit p => exact ⟨_, rfl, hostCommand_keeps setUnit_keeps⟩
  | setHold p => exact ⟨_, rfl, hostCommand_keeps setHold_keeps⟩
  | setAttention p => exact ⟨_, rfl, hostCommand_keeps setAttention_keeps⟩
  | jobSetup p => exact ⟨_, rfl, hostCommand_keeps execJobSetup_keeps⟩
  | jobConfirm p => exact ⟨_, rfl, hostCommandOr_keeps fun _ => jobConfirm_keeps s⟩
  | jobConfirmCompletion => exact ⟨_, rfl, lineEvent_keeps (jobConfirmCompletion_keeps s)⟩
  | run p => exact ⟨_, rfl, hostCommand_keeps fun _ => runLine_keeps⟩
  | pause p => exact ⟨_, rfl, hostCommand_keeps fun _ => pauseLine_keeps⟩
  | drain p => exact ⟨_, rfl, hostCommand_keeps fun _ => drainLine_keeps⟩
  | clearSetup p => exact ⟨_, rfl, hostCommand_keeps fun _ => clearSetup_keeps⟩
  | clearConfirm p => exact ⟨_, rfl, hostCommand_keeps fun _ => clearConfirm_keeps _⟩
  | clearConfirmCompletion => exact ⟨_, rfl, lineEvent_keeps (clearConfirmCompletion_keeps s)⟩
  | reset p =>
    refine ⟨_, rfl, takeFrame_keeps ?_⟩
    cases p with
    | fields _ => exact resetCommand_keeps s
    | malformed => exact (emptyLatch_keeps s).answer _ _
  | load p => exact ⟨_, rfl, hostCommandOr_keeps fun a => (emptyLatch_keeps s).trans (load_keeps a _)⟩
  | find p => exact ⟨_, rfl, hostCommand_keeps find_keeps⟩
  | amend p => exact ⟨_, rfl, hostCommand_keeps amend_keeps⟩
  | withdraw p => exact ⟨_, rfl, hostCommand_keeps withdraw_keeps⟩
  | readBundle p => exact ⟨_, rfl, hostCommand_keeps readBundle_keeps⟩
  | releaseBundle p => exact ⟨_, rfl, hostCommand_keeps releaseBundle_keeps⟩
  | readExceptions p => exact ⟨_, rfl, hostCommand_keeps fun _ t => answer_keeps _ _ t⟩
  | releaseExceptions p => exact ⟨_, rfl, hostCommand_keeps releaseExceptions_keeps⟩
  | snapshot p => exact ⟨_, rfl, hostCommand_keeps snapshot_keeps⟩
  | readSnapshot p => exact ⟨_, rfl, hostCommand_keeps fun _ => readSnapshot_keeps⟩
  | pinResetAssert => exact ⟨_, rfl, {}⟩
  | pinResetRelease =>
    exact ⟨_, rfl, Keeps.ite _ (fun _ => pinResetRelease_keeps s) (fun _ => Keeps.refl s)⟩
  | encoderForwardCount i =>
    exact ⟨_, rfl, Keeps.trans (t := { s with inputs := { s.inputs with gauge := i.gauge } }) {}
      (lineEvent_keeps ((passTime_keeps _ _).trans (forwardCount_keeps _ _)))⟩
  | encoderReverseCount n =>
    exact ⟨_, rfl, lineEvent_keeps ((passTime_keeps _ s).trans (reverseCount_keeps _))⟩
  | faultInputActive f =>
    exact ⟨_, rfl, Keeps.ite _ (fun _ => Keeps.refl s)
      (fun _ => (setFaultInput_keeps f true s).trans (lineEvent_keeps (takeFault_keeps _ _)))⟩
  | faultInputInactive f => exact ⟨_, rfl, setFaultInput_keeps f false s⟩
  | clearEdge p => exact ⟨_, rfl, lineEvent_keeps (clearEdge_keeps p s)⟩
  | pocketJam p => exact ⟨_, rfl, lineEvent_keeps (pocketJam_keeps p s)⟩
  | holdTimeout => exact ⟨_, rfl, lineEvent_keeps (holdTimeout_keeps s)⟩
  | holdExpired =>
    exact ⟨_, rfl, lineEvent_keeps ((expireFrom_step _ s).keeps (expireFrom_stock _ s))⟩
  | verifyTimeout =>
    exact ⟨_, rfl, lineEvent_keeps ((verifyTimeouts_step s).keeps (verifyTimeouts_stock s))⟩
  | accept n => exact ⟨_, rfl, lineEvent_keeps (accept_keeps n s)⟩
  | printed n => exact ⟨_, rfl, lineEvent_keeps (printed_keeps n s)⟩
  | refuse n r => exact ⟨_, rfl, lineEvent_keeps (refuse_keeps n r s)⟩
  | printerState v => exact ⟨_, rfl, lineEvent_keeps (printerState_keeps v s)⟩
  | carrierMessageDiscarded => exact ⟨_, rfl, lineEvent_keeps {}⟩
  | carrierTransmitDone => exact ⟨_, rfl, lineEvent_keeps {}⟩
  | read k n => exact ⟨_, rfl, lineEvent_keeps (takeRead_keeps k n s)⟩
  | readDiscarded w =>
    refine ⟨_, rfl, lineEvent_keeps ?_⟩
    cases w with
    | malformed => exact {}
    | emptyList => exact Keeps.ite _ (fun _ => {}) (fun _ => Keeps.refl s)
  | stationInputEdge l =>
    exact ⟨_, rfl, lineEvent_keeps (stationInputEdge_keeps l s)⟩

/-! ### Every step -/

/-- A step keeps every relation; the command it takes off the queue is in none of them. -/
theorem step_keeps {s t : State} (h : step s = .next t) : ∃ u, u = { s with pending := u.pending } ∧ Keeps u t := by
  unfold step at h
  split at h
  · cases h
    exact ⟨s, rfl, Keeps.ite _ (fun _ => Keeps.refl s) (fun _ => passTime_keeps _ s)⟩
  next c rest _ =>
    obtain ⟨u, hu, hk⟩ := exec_keeps c { s with pending := rest }
    cases hu.symm.trans h
    exact ⟨{ s with pending := rest }, rfl, hk⟩

/-- Settles O1: the two arms of a step, and the two of a tick. -/
theorem stepTakesFrontCommand : Obligations.StepTakesFrontCommand := by
  intro c s rest
  refine ⟨fun h => ?_, fun h hr => ?_, fun h hr => ?_⟩
  · simp only [step, h]
  · simp only [step, h, tick, hr, if_true]
  · simp only [step, h, tick, hr, Bool.false_eq_true, if_false]

/-- Settles O2: `exec_keeps`, command by command. -/
theorem everyCommandCompletes : Obligations.EveryCommandCompletes := by
  intro c s
  obtain ⟨t, ht, hk⟩ := exec_keeps c s
  exact ⟨t, ht, hk.pending⟩

/-- Settles O56. -/
theorem stepKeepsLineSafe : Obligations.StepKeepsLineSafe := by
  intro s t h hs
  obtain ⟨u, hu, hk⟩ := step_keeps hs
  exact hk.line (by rw [hu]; exact h)

/-- Settles O57. -/
theorem stepKeepsStoreSafe : Obligations.StepKeepsStoreSafe := by
  intro s t h hs
  obtain ⟨u, hu, hk⟩ := step_keeps hs
  exact hk.store (by rw [hu]; exact h)

/-- Settles O58. -/
theorem stepKeepsBundleSafe : Obligations.StepKeepsBundleSafe := by
  intro s t h hs
  obtain ⟨u, hu, hk⟩ := step_keeps hs
  exact hk.bundles (by rw [hu]; exact h)

/-- Settles O59. -/
theorem stepKeepsPhaseAndLeadSafe : Obligations.StepKeepsPhaseAndLeadSafe := by
  intro s t hs
  obtain ⟨u, hu, hk⟩ := step_keeps hs
  exact ⟨fun h => hk.phase (by rw [hu]; exact h), fun h => hk.lead (by rw [hu]; exact h)⟩

/-- Settles O60. -/
theorem stepKeepsSettingsSafe : Obligations.StepKeepsSettingsSafe := by
  intro s t h hs
  obtain ⟨u, hu, hk⟩ := step_keeps hs
  exact hk.settings (by rw [hu]; exact h)

end Sys2Proof.Machine

/-! PROOF. The confirms and their completions, PAUSE and the RESET command (R53, R55, R175 to R182): O21,
O22, O23, O26, O28 and O29. -/

namespace Sys2Proof.Machine

/-! ### JOB CONFIRM and CLEAR CONFIRM (R175, R178) -/

section Confirm
variable {s : State}

theorem exec_jobConfirm (h : Listening s) :
    exec (.jobConfirm (.fields ())) s = .next (jobConfirm s.host.latch (emptyLatch s)) :=
  congrArg Host.Outcome.next (hostCommand_listening () (fun _ => jobConfirm s.host.latch) h)

theorem exec_clearConfirm (h : Listening s) :
    exec (.clearConfirm (.fields ())) s = .next (clearConfirm s.host.latch (emptyLatch s)) :=
  congrArg Host.Outcome.next (hostCommand_listening () (fun _ => clearConfirm s.host.latch) h)

/-- The conditions of a clear do not look at the latch. -/
theorem clearConfirm_clearable (hc : Clearable s) :
    clearConfirm .clear (emptyLatch s) = beginOperation .clearConfirm (emptyLatch s) :=
  if_pos ((clearable_iff (emptyLatch s)).mpr hc)

theorem clearConfirm_not_clearable (hc : ¬ Clearable s) :
    clearConfirm .clear (emptyLatch s) = refuseWith .state (emptyLatch s) :=
  if_neg (mt (clearable_iff (emptyLatch s)).mp hc)

end Confirm

/-- Settles O21: what each confirm does with each content of the latch. -/
theorem confirmsBeginOnTheirSetup : Obligations.ConfirmsBeginOnTheirSetup := by
  intro s h
  rw [exec_jobConfirm h, exec_clearConfirm h]
  refine ⟨fun low start e => ?job, fun e => ?empty, fun e => ?clear⟩ <;> rw [e]
  case job => exact ⟨rfl, rfl⟩
  case empty => exact ⟨rfl, rfl⟩
  case clear =>
    refine ⟨rfl, fun hc => ?_, fun hc => ?_⟩
    · rw [clearConfirm_not_clearable hc]
      rfl
    · rw [clearConfirm_clearable hc]
      rfl

/-! ### A stop with no pending settings -/

theorem NonePending.unitAt {s : State} (h : NonePending s) (u : Nat) :
    (Machine.unitAt s u).pending = none := by
  rw [Machine.unitAt, List.getD_eq_getElem?_getD]
  cases e : s.units[u]? with
  | none => rfl
  | some t => exact h t (List.mem_of_getElem? e)

/-- With no settings pending, none take effect. -/
theorem applyPending_of_nonePending {s : State} (h : NonePending s) : applyPending s = s :=
  List.foldl_fixed' (fun u => by simp only [h.unitAt u]) _

theorem stopLine_of_nonePending (t : LineState) {s : State} (h : NonePending s) :
    stopLine t s = { s with line := s.line.enter t } :=
  applyPending_of_nonePending (s := enterLine t s) h

/-- Between two states without DRIVE-ON a change keeps the pitch period; a timer starts at HOLDING alone. -/
theorem LineUnit.enter_still {l : LineUnit} {t : LineState} (hl : l.state.moving = false)
    (ht : t.moving = false) (hh : t ≠ .holding) :
    l.enter t = { l with state := t, pause := if l.state = t then l.pause else false } := by
  simp [LineUnit.enter, hl, ht, hh]

/-! ### The completions (R176, R179) -/

/-- Settles O22: the completion of JOB CONFIRM, whose stop finds no settings to apply. -/
theorem jobConfirmCompletionBeginsJob : Obligations.JobConfirmCompletionBeginsJob := by
  intro s hr
  refine ⟨fun low start ho hs hp => ?begins, fun hn => ?none⟩
  case begins =>
    have hstop : stopLine .stopped { s with tracking := Tracking.initial }
        = { s with tracking := Tracking.initial, line := s.line.enter .stopped } :=
      stopLine_of_nonePending .stopped (s := { s with tracking := Tracking.initial }) hp
    have hline : s.line.enter .stopped = { s.line with state := .stopped, pause := false } := by
      rw [LineUnit.enter_still (t := .stopped) (by rw [hs]; rfl) rfl nofun]
      simp [hs]
    rw [exec_jobConfirmCompletion hr ho, completeJob, jobBlocks, hstop, hline]
    rfl
  case none =>
    have e : jobConfirmCompletion s = s := by
      unfold jobConfirmCompletion
      split
      · next low start e => exact absurd e (hn low start)
      all_goals rfl
    exact congrArg Host.Outcome.next ((lineEvent_taken _ hr).trans e)

/-- A CANCEL ALL produced: behind the message in transmission if there is one, else at once (R90). -/
theorem produceCancelAll_eq (s : State) : produceCancelAll s =
    { s with
      carrier :=
        { s.carrier with
          transmitting := some (s.carrier.transmitting.getD .cancelAll)
          waiting := if s.carrier.transmitting.isSome then [.cancelAll] else [] } } := by
  unfold produceCancelAll produce
  cases e : s.carrier.transmitting <;> simp [e]

theorem clearBlocks_eq {s : State} (hm : s.line.state.moving = false) (hp : NonePending s) :
    clearBlocks s = produceCancelAll
      { s with
        tracking := { s.tracking with pieces := [] }
        store := []
        queue := s.queue.emptied
        planner := s.planner.emptied
        line :=
          { s.line with state := .idle, drain := false, pause := false, first := none, further := 0 }
        holds := Holds.emptied
        carrier := s.carrier.restart
        verify := s.verify.emptied
        stacker := s.stacker.emptied
        units := s.units.map TimingUnit.atConfirm } := by
  have hstop : stopLine .idle { s with tracking := { s.tracking with pieces := [] } }
      = { s with tracking := { s.tracking with pieces := [] }, line := s.line.enter .idle } :=
    stopLine_of_nonePending .idle (s := { s with tracking := { s.tracking with pieces := [] } }) hp
  rw [clearBlocks, hstop, LineUnit.enter_still (t := .idle) hm rfl nofun]
  rfl

/-- Settles O23: the completion of CLEAR CONFIRM, whose stop finds no settings to apply. -/
theorem clearConfirmCompletionClears : Obligations.ClearConfirmCompletionClears := by
  intro s hr
  refine ⟨fun ho hs hp => ?clears, fun hn => ?none⟩
  case clears =>
    have hm : s.line.state.moving = false := by rcases hs with hs | hs | hs <;> rw [hs] <;> rfl
    have e : clearConfirmCompletion s = completeClear s := by simp only [clearConfirmCompletion, ho]
    refine congrArg Host.Outcome.next ((lineEvent_taken _ hr).trans (e.trans ?_))
    rw [completeClear, clearBlocks_eq hm hp, produceCancelAll_eq,
      ← show le 2 Config.storeSlots = [0#8, 2#8] by decide]
    rfl
  case none =>
    have e : clearConfirmCompletion s = s := by
      unfold clearConfirmCompletion
      split
      · next e => exact absurd e hn
      all_goals rfl
    exact congrArg Host.Outcome.next ((lineEvent_taken _ hr).trans e)

/-! ### PAUSE (R55) -/

section Pause
variable {s : State}

theorem exec_pause (h : Listening s) :
    exec (.pause (.fields ())) s = .next (pauseLine (emptyLatch s)) :=
  congrArg Host.Outcome.next (hostCommand_listening () (fun _ => pauseLine) h)

/-- A stop from HOLDING changes the line state alone, and applies the settings that pend. -/
theorem stopLine_of_holding (hl : LineSafe s.line) (hs : s.line.state = .holding) (b : Bool) :
    stopLine .stopped (freshGauge b s)
      = applyPending (freshGauge b { s with line := { s.line with state := .stopped } }) := by
  obtain ⟨hpause, -, -⟩ := hl.untimed_of_not_moving (by rw [hs]; rfl)
  have he : s.line.enter .stopped = { s.line with state := .stopped } := by
    rw [LineUnit.enter_still (t := .stopped) (by rw [hs]; rfl) rfl nofun]
    simp [hs, hpause]
  cases b
  · exact congrArg applyPending (congrArg (fun l => { s with line := l }) he)
  · exact congrArg (fun l => applyPending (freshGauge true { s with line := l })) he

theorem freshGauge_host (b : Bool) (s : State) : (freshGauge b s).host = s.host := by
  unfold freshGauge
  split <;> rfl

theorem answer_eq (c : ResultCode) (p : List Byte) (s : State) :
    answer c p s = { s with host := { s.host with slot := .formed c p } } := rfl

end Pause

/-- Settles O26: PAUSE by line state; a stop from HOLDING is `stopLine_of_holding`. -/
theorem pauseByLineState : Obligations.PauseByLineState := by
  refine ⟨fun s h hl => ?_, fun s => ?applied⟩
  case applied =>
    have e : (fun (t : State) (u : Nat) =>
        ((unitAt t u).pending.map (fun n => writeUnit u n t)).getD t) = fun t u =>
          match (unitAt t u).pending with
          | none => t
          | some n => writeUnit u n t := by
      funext t u
      cases (unitAt t u).pending <;> rfl
    rw [e]
    rfl
  dsimp only
  rw [exec_pause h]
  have stop (hs : s.line.state = .holding) : pauseLine (emptyLatch s) = { applyPending
      (freshGauge (unitAt s 16).pending.isSome
        { s with line := { s.line with state := .stopped }, host := { s.host with latch := .empty } })
      with host := s.host.answered .ok [] } := by
    have e : pauseLine (emptyLatch s) = answer .ok []
        (stopLine .stopped (freshGauge (unitAt s 16).pending.isSome (emptyLatch s))) := by
      simp only [pauseLine, emptyLatch_line, hs]
      rfl
    rw [e, stopLine_of_holding (s := emptyLatch s) hl hs, answer_eq, (applyPending_step _).host,
      freshGauge_host]
    rfl
  refine ⟨?moving, ?holding, ?quiet, ?stopped, ?refused⟩
  case moving =>
    rintro (hs | hs) <;> simp only [pauseLine, emptyLatch_line, hs] <;> rfl
  case holding => exact fun hs => congrArg Host.Outcome.next (stop hs)
  case quiet =>
    intro hs hp
    have sampled : (unitAt s 16).pending.isSome = false := by rw [hp.unitAt 16]; rfl
    rw [stop hs, sampled]
    exact congrArg (fun t : State => Host.Outcome.next { t with host := s.host.answered .ok [] })
      (applyPending_of_nonePending (s := { s with
        line := { s.line with state := .stopped }, host := { s.host with latch := .empty } }) hp)
  case stopped => intro hs; simp only [pauseLine, emptyLatch_line, hs]; rfl
  case refused =>
    rintro (hs | hs) <;> simp only [pauseLine, emptyLatch_line, hs] <;> rfl

/-! ### The RESET command (R181, R182) -/

theorem exec_reset {s : State} (h : TakesFrames s) :
    exec (.reset (.fields ())) s = .next (resetCommand s) :=
  congrArg Host.Outcome.next (takeFrame_taken _ h)

/-- Settles O28: the RESET columns of the blocks and the host link. -/
theorem resetCommandResetsPart : Obligations.ResetCommandResetsPart := by
  intro s h
  rw [exec_reset h, resetCommand, resetBlocks, produceCancelAll_eq]
  rfl

/-- The RESET command looks at nothing of the host link that a confirm changes. -/
theorem resetCommand_withHost (s : State) {h : HostLink} (e : h.atReset = s.host.atReset) :
    resetCommand { s with host := h } = resetCommand s := by
  rw [resetCommand, resetCommand, resetBlocks, resetBlocks, produceCancelAll_eq, produceCancelAll_eq]
  dsimp only
  rw [e]

/-- A confirm changes the slot, the latch and the operation in progress, and nothing else. -/
theorem exec_confirm_withHost {c : Instr} {s t : State} (h : Listening s)
    (hc : c = .jobConfirm (.fields ()) ∨ c = .clearConfirm (.fields ())) (he : exec c s = .next t) :
    ∃ k : HostLink, t = { s with host := k } ∧ k.atReset = s.host.atReset := by
  rcases hc with rfl | rfl
  · rw [exec_jobConfirm h] at he
    cases he
    unfold jobConfirm
    split <;> exact ⟨_, rfl, rfl⟩
  · rw [exec_clearConfirm h] at he
    cases he
    unfold clearConfirm
    split
    · split <;> exact ⟨_, rfl, rfl⟩
    all_goals exact ⟨_, rfl, rfl⟩

/-- Settles O29: the RESET command does not see what a confirm has changed, and RDY is high after it. -/
theorem resetDuringConfirmEqualsResetBefore : Obligations.ResetDuringConfirmEqualsResetBefore := by
  intro c s t h hc he
  obtain ⟨k, rfl, hk⟩ := exec_confirm_withHost h hc he
  have taken : TakesFrames { s with host := k } := h.1
  rw [exec_reset taken, exec_reset h.1, resetCommand_withHost s hk]
  refine ⟨rfl, _, rfl, ?_⟩
  obtain ⟨⟨hreset, hstart⟩, _⟩ := h
  rw [resetCommand, resetBlocks, produceCancelAll_eq]
  simp [rdy, busy, HostLink.atReset, hreset, hstart, Startup.over]

end Sys2Proof.Machine

/-! PROOF. The host link and the pins (R183 to R195): commands turned away, the asserted reset input, the
pin reset, response reads, attention: O3, O4, O5, O6 and O8. -/

namespace Sys2Proof.Machine

/-! ### BUSY and malformed payloads (R185, R187) -/

/-- A busy part answers BUSY to every command that waits for a confirm. -/
theorem exec_busy {c : Instr} {s : State} (h : TakesFrames s) (hb : s.host.operation ≠ none)
    (hc : waitsForConfirm c = true) : exec c s = .next (refuseWith .busy s) := by
  cases c
  case load p => exact congrArg Host.Outcome.next (hostCommandOr_busy _ p _ h hb)
  all_goals first
    | exact absurd hc Bool.false_ne_true
    | exact congrArg Host.Outcome.next (hostCommandOr_busy (fun _ => []) _ _ h hb)

/-- A payload out of form is refused before the command's own rule, by every command but LOAD and
STATUS with an empty payload. -/
theorem exec_malformed {c : Instr} {s : State} (h : Listening s) (hc : isMalformed c)
    (hl : c ≠ .load .malformed) (hs : c ≠ .status .malformed) :
    exec c s = .next { s with host := s.host.answered .range [] } := by
  have reset : exec (.reset .malformed) s = .next { s with host := s.host.answered .range [] } :=
    congrArg Host.Outcome.next (takeFrame_taken _ h.1)
  rcases hc with rfl | rfl | rfl | rfl | rfl | rfl | rfl | rfl | rfl | rfl | rfl | rfl | rfl | rfl | rfl
    | rfl | rfl | rfl | rfl | rfl | rfl | rfl | rfl | rfl | rfl | rfl | rfl | rfl | rfl
  case inr.inr.inr.inr.inr.inr.inr.inr.inr.inr.inr.inr.inr.inr.inr.inr.inr.inr.inl => exact reset
  all_goals first
    | exact absurd rfl hs
    | exact absurd rfl hl
    | exact congrArg Host.Outcome.next (hostCommandOr_malformed (fun _ => []) _ h)

/-- Settles O3. -/
theorem busyAndMalformedCommandsAreTurnedAway :
    Obligations.BusyAndMalformedCommandsAreTurnedAway := by
  intro c s h
  refine ⟨fun hb hc => ⟨?_, exec_busy h hb hc⟩, fun ho hc hl hs => exec_malformed ⟨h, ho⟩ hc hl hs,
    fun ho hc => ?_, fun hc => ?_, fun hc => ?_⟩
  · simp [rdy, busy, Option.isSome_iff_ne_none.mpr hb]
  · rw [hc]
    exact congrArg Host.Outcome.next (hostCommandOr_malformed (loadPayload 0 none) _ ⟨h, ho⟩)
  · rw [hc]
    exact congrArg Host.Outcome.next (takeFrame_taken _ h)
  · rw [hc]
    exact congrArg Host.Outcome.next (takeFrame_taken _ h)

/-! ### The reset input (R183) -/

/-- Under an asserted reset input no command or event is taken, but for the levels of inputs and the
release. -/
theorem exec_asserted {c : Instr} {s : State} (h : s.inputs.reset = true)
    (hf : ∀ i, c ≠ .encoderForwardCount i) (ha : ∀ f, c ≠ .faultInputActive f)
    (hi : ∀ f, c ≠ .faultInputInactive f) (hr : c ≠ .pinResetRelease) : exec c s = .next s := by
  cases c
  case pinResetAssert =>
    have e : { s.inputs with reset := true } = s.inputs := by rw [← h]
    exact congrArg (fun i => Host.Outcome.next { s with inputs := i }) e
  case pinResetRelease => exact absurd rfl hr
  case encoderForwardCount i => exact absurd rfl (hf i)
  case faultInputActive f => exact absurd rfl (ha f)
  case faultInputInactive f => exact absurd rfl (hi f)
  all_goals first
    | exact congrArg Host.Outcome.next (takeFrame_reset _ h)
    | exact congrArg Host.Outcome.next (lineEvent_reset _ h)

/-- A fault input that is active already is at its level. -/
theorem setFaultInput_of_level {f : FaultInput} {s : State} (h : s.inputs.level f = true) :
    setFaultInput f true s = s := by
  cases f
  all_goals
    simp only [Inputs.level] at h
    simp only [setFaultInput, ← h]

theorem setFaultInput_reset (f : FaultInput) (b : Bool) (s : State) :
    (setFaultInput f b s).inputs.reset = s.inputs.reset := by cases f <;> rfl

theorem pocketState_ejecting_iff (s : State) (p : PocketId) :
    pocketState s p = .ejecting ↔ ∃ b, bundleIn s p = some b ∧ b.state = .ejecting := by
  unfold pocketState
  cases bundleIn s p with
  | none => simp
  | some b => cases e : b.state <;> simp [e]

theorem ejectOutput_iff {s : State} (h : s.inputs.reset = false) (p : PocketId) :
    ejectOutput s p = true ↔ ∃ b, bundleIn s p = some b ∧ b.state = .ejecting := by
  rw [← pocketState_ejecting_iff]
  simp [ejectOutput, h]

/-- Settles O4. -/
theorem assertedResetInputTakesNoEvent : Obligations.AssertedResetInputTakesNoEvent := by
  refine ⟨fun s => rfl, fun s h => ⟨⟨?_, fun p => ?_, fun u => ?_, ?_, ?_⟩, ?_, ?_, ?_, ?_⟩,
    fun s h => ⟨?_, ejectOutput_iff h, fun u => ?_⟩⟩
  · simp [driveOn, h]
  · simp [ejectOutput, h]
  · simp [unitOutput, h]
  · simp [attn, h]
  · simp [rdy, h]
  · exact fun c => exec_asserted h
  · exact fun i => congrArg Host.Outcome.next (lineEvent_reset _ h)
  · intro f
    refine congrArg Host.Outcome.next ?_
    split
    next hl => exact (setFaultInput_of_level hl).symm
    next => exact lineEvent_reset _ ((setFaultInput_reset f true s).trans h)
  · exact fun f => rfl
  · simp only [driveOn, h, Bool.not_false, Bool.and_true]
    cases s.line.state <;> simp [LineState.moving]
  · cases e : (unitAt s u).window <;> simp [unitOutput, h, e, Option.isSome_iff_ne_none]

/-! ### The pin reset (R183, R184) -/

/-- The span that a release begins: at most 1 ms, and not 0 where RDY is still to rise. -/
theorem startupBegun_bound (n k : Nat) (h : (Startup.begun n).rdyIn = some k) : 1 ≤ k ∧ k ≤ 1000 := by
  simp only [Startup.begun] at h
  split at h
  · exact absurd h nofun
  · cases h
    omega

/-- Every frame is offered to `takeFrame`. -/
theorem exec_frame {c : Instr} (hc : isFrame c) (s : State) :
    ∃ act, exec c s = .next (takeFrame act s) := by
  rcases hc with hc | ⟨p, rfl⟩ | ⟨p, rfl⟩ | ⟨w, rfl⟩
  · cases c
    all_goals first
      | exact absurd hc Bool.false_ne_true
      | exact ⟨_, rfl⟩
  all_goals exact ⟨_, rfl⟩

theorem takeFault_startup (c : FaultCause) (s : State) : (takeFault c s).startup = s.startup := by
  unfold takeFault
  cases s.line.state <;> rfl

theorem takeExpiry_startup (e : Expiry) (s : State) : (takeExpiry e s).startup = s.startup := by
  cases e with
  | hold => exact takeFault_startup _ _
  | eject p => cases p <;> exact takeFault_startup _ _

/-- The span to the rise of RDY, after so many µs. -/
def Startup.after (n : Nat) (u : Startup) : Startup :=
  { u with rdyIn := u.rdyIn.bind (fun t => if t ≤ n then none else some (t - n)) }

theorem Startup.after_after (m n : Nat) (u : Startup) : (u.after m).after n = u.after (m + n) := by
  obtain ⟨r, b⟩ := u
  cases r with
  | none => rfl
  | some t =>
    simp only [Startup.after, Option.bind_some]
    split_ifs <;> simp <;> omega

/-- The span to the rise of RDY runs on through every limit that falls. -/
theorem passTime_startup (n : Nat) (s : State) : (passTime n s).startup = s.startup.after n := by
  have h : ∀ fuel n s, (passTimeFrom fuel n s).startup = s.startup.after n := by
    intro fuel
    induction fuel with
    | zero => exact fun _ _ => rfl
    | succ fuel ih =>
      intro n s
      unfold passTimeFrom
      split
      · rfl
      next t e _ =>
        split
        next ht =>
          rw [ih, takeExpiry_startup]
          exact (Startup.after_after t (n - t) s.startup).trans (by rw [Nat.add_sub_cancel' ht])
        · rfl
  exact h 3 n s

/-- Settles O5: the release, the frames discarded until RDY has risen, and the reset values. -/
theorem pinResetRestoresResetValues : Obligations.PinResetRestoresResetValues := by
  refine ⟨fun s => ⟨fun h => ?release, fun h => ⟨?idle, ?rising, ?straddling, ?high, ?rise⟩⟩, ?values⟩
  case release =>
    refine ⟨Startup.begun s.draws, startupBegun_bound s.draws, ?_⟩
    exact congrArg Host.Outcome.next (if_pos h)
  case idle => exact congrArg Host.Outcome.next (if_neg (Bool.eq_false_iff.mp h))
  case rising =>
    refine fun hr => ⟨?_, fun c hc => ?_⟩
    · simp [rdy, Option.isSome_iff_ne_none.mpr hr]
    · obtain ⟨act, e⟩ := exec_frame hc s
      rw [e, takeFrame_rising act hr]
  case straddling =>
    intro hr hb c hc
    obtain ⟨act, e⟩ := exec_frame hc s
    rw [e, takeFrame_straddling act h hr hb]
  case high => exact fun hr => by simp [rdy, busy, h, hr]
  case rise =>
    intro n micros hr hn
    rw [passTime_startup]
    simp [Startup.after, hr, hn]
  case values =>
    rintro s rfl
    refine ⟨⟨rfl, rfl, rfl, rfl, rfl, rfl, rfl⟩, ⟨rfl, rfl, rfl, rfl, by decide, rfl⟩,
      ⟨rfl, rfl, rfl, rfl, rfl, rfl, rfl, rfl, rfl, rfl, rfl, rfl, rfl, rfl⟩, ⟨rfl, rfl, rfl, rfl⟩,
      ⟨rfl, rfl, rfl, rfl, rfl, rfl, rfl, rfl, rfl, rfl, rfl, rfl, rfl, rfl, rfl, rfl, rfl⟩,
      ⟨rfl, rfl, rfl, rfl, rfl, rfl, rfl⟩, ⟨rfl, rfl, rfl, rfl, rfl, rfl, rfl, rfl⟩,
      ⟨rfl, rfl, rfl, rfl, rfl, rfl, rfl, rfl, rfl, rfl, rfl, rfl, rfl⟩, ⟨rfl, fun u hu => ?_⟩,
      ⟨rfl, rfl, rfl, rfl, rfl, rfl, rfl, rfl⟩⟩
    rw [List.eq_of_mem_replicate hu]
    exact ⟨rfl, rfl, rfl, rfl, rfl, rfl, rfl, rfl, rfl⟩

/-! ### Response reads and refused frames (R184, R186) -/

/-- Bytes clocked out are the response's, and then zeros. -/
theorem clockOut_eq (n : Nat) (bytes : List Byte) :
    clockOut n bytes = (bytes ++ List.replicate n 0#8).take n := by
  simp only [clockOut, List.take_append, List.take_replicate]
  congr 2
  omega

theorem startup_after_read (u : Startup) :
    (if u.rdyIn.isNone then Startup.over else u) = if u.rdyIn = none then Startup.over else u := by
  cases u.rdyIn <;> rfl

theorem le_one (n : Nat) : le 1 n = [BitVec.ofNat 8 n] := by
  simp [le]

/-- Settles O6. -/
theorem responseReadsAndRefusedFrames : Obligations.ResponseReadsAndRefusedFrames := by
  intro s hr
  dsimp only
  have read (n : Nat) : exec (.responseRead n) s = .next (responseRead n s) :=
    congrArg Host.Outcome.next (lineEvent_taken _ hr)
  refine ⟨fun code payload n hs => ?formed, fun n hs => ?zeros, fun h => ⟨?_, ?_, ?_⟩⟩
  case formed =>
    rw [read, responseRead, startup_after_read, hs, clockOut_eq]
    simp only [Slot.bytes, Slot.afterRead, le_one, List.cons_append, List.nil_append, List.length_cons]
  case zeros =>
    have bytes : s.host.slot.bytes = [0#8, 0#8] := by rcases hs with hs | hs <;> rw [hs] <;> rfl
    have slot : s.host.slot.afterRead n = s.host.slot := by rcases hs with hs | hs <;> rw [hs] <;> rfl
    have zeros : clockOut n [0#8, 0#8] = List.replicate n 0#8 := by
      rw [clockOut_eq, show [0#8, 0#8] = List.replicate 2 0#8 from rfl, List.replicate_append_replicate,
        List.take_replicate]
      congr 1
      omega
    rw [read, responseRead, startup_after_read, bytes, slot, zeros]
  · rw [h.2]
    rfl
  · exact congrArg Host.Outcome.next (takeFrame_taken _ h)
  · exact congrArg Host.Outcome.next (takeFrame_taken _ h)

/-! ### IDENTIFY, SET ATTENTION and ATTN (R190, R191) -/

/-- A byte has bits 6 and 7 clear exactly when it is below 64. -/
theorem byte_lt_64_iff (b : Byte) : b.toNat < 64 ↔ b.getLsbD 6 = false ∧ b.getLsbD 7 = false := by
  revert b
  decide

/-- A set of six conditions meets an enable set exactly where a condition is enabled and stands. -/
theorem bits6_and_ne_zero (b0 b1 b2 b3 b4 b5 : Bool) (v : BitVec 6) :
    (bits6 b0 b1 b2 b3 b4 b5 &&& v) ≠ 0 ↔ (v.getLsbD 0 = true ∧ b0 = true)
      ∨ (v.getLsbD 1 = true ∧ b1 = true) ∨ (v.getLsbD 2 = true ∧ b2 = true)
      ∨ (v.getLsbD 3 = true ∧ b3 = true) ∨ (v.getLsbD 4 = true ∧ b4 = true)
      ∨ (v.getLsbD 5 = true ∧ b5 = true) := by
  revert v
  cases b0 <;> cases b1 <;> cases b2 <;> cases b3 <;> cases b4 <;> cases b5 <;> decide

/-- Settles O8. -/
theorem identifyAndAttentionFollowTheirRules : Obligations.IdentifyAndAttentionFollowTheirRules := by
  refine ⟨fun s h => ⟨?_, fun b => ?_⟩, fun s => ?_⟩
  · have e : identityBytes = [0x46#8, 0x0A#8, 0x01#8] := by decide
    rw [← e]
    exact congrArg Host.Outcome.next (hostCommand_listening () _ h)
  · have e : exec (.setAttention (.fields b)) s = .next (setAttention b (emptyLatch s)) :=
      congrArg Host.Outcome.next (hostCommand_listening b setAttention h)
    have hb := byte_lt_64_iff b
    refine ⟨fun h6 h7 => ?_, fun h67 => ?_⟩
    · rw [e, setAttention, if_pos (hb.mpr ⟨h6, h7⟩)]
      rfl
    · rw [e, setAttention, if_neg]
      · rfl
      · rw [hb]
        rcases h67 with k | k <;> simp [k]
  · simp only [attn, Bool.and_eq_true, bne_iff_ne, standing, Bool.not_eq_true', bits6_and_ne_zero]
    simp only [faultStands, bundleReadyStands, exceptionsStand, queueLowStands, snapshotStands,
      Option.isSome_iff_ne_none, Bool.and_eq_true, Bool.not_eq_true', List.isEmpty_eq_false_iff,
      decide_eq_true_eq, Bool.or_eq_true, and_assoc, or_assoc]
    exact and_comm

end Sys2Proof.Machine

/-! PROOF. The setting commands of the geometry, the remakes, the carrier unit, the timing units and the
holds: O12, O16, O17, O18 and O19. -/

namespace Sys2Proof.Machine

/-! ### Values converted -/

/-- The result code of a setting command says whether a value was converted. -/
theorem okOrClamped_decide (p : Prop) [Decidable p] :
    okOrClamped (decide p) = if p then .okClamped else .ok := by
  simp [okOrClamped]

theorem bringInto_one (hi n : Nat) (h : 1 ≤ hi) :
    bringInto 1 hi n = if n = 0 then 1 else if hi < n then hi else n := by
  unfold bringInto
  split_ifs <;> omega

theorem min_eq_ite (hi n : Nat) : min hi n = if hi < n then hi else n := by
  split_ifs <;> omega

/-! ### SET REMAKE (R130) -/

theorem exec_setRemake {f : RemakeFields} {s : State} (h : Listening s) :
    exec (.setRemake (.fields f)) s = .next (setRemake f (emptyLatch s)) :=
  congrArg Host.Outcome.next (hostCommand_listening f setRemake h)

theorem remakeUsed_eq (f : RemakeFields) : remakeUsed f =
    { burst := if f.burst = 0 then 1 else if 8 < f.burst then 8 else f.burst
      remakeLimit := if 7 < f.remakeLimit then 7 else f.remakeLimit
      tolerance := if f.tolerance = 0 then 1 else if 50 < f.tolerance then 50 else f.tolerance } := by
  rw [remakeUsed, bringInto_one 8 _ (by decide), bringInto_one 50 _ (by decide), min_eq_ite]

theorem remakeFields_ne_iff (u f : RemakeFields) :
    u ≠ f ↔ u.burst ≠ f.burst ∨ u.remakeLimit ≠ f.remakeLimit ∨ u.tolerance ≠ f.tolerance := by
  cases u; cases f
  simp only [ne_eq, RemakeFields.mk.injEq, not_and_or]

/-- Settles O16. -/
theorem setRemakeConvertsSettings : Obligations.SetRemakeConvertsSettings := by
  intro f s h burst limit tolerance clamped
  have hu : remakeUsed f = ⟨burst, limit, tolerance⟩ := remakeUsed_eq f
  have hc : okOrClamped (remakeUsed f ≠ f) = if clamped then .okClamped else .ok := by
    rw [okOrClamped_decide, if_congr ((remakeFields_ne_iff _ _).trans (by rw [hu])) rfl rfl]
  rw [exec_setRemake h, setRemake, hc, hu]
  rfl

/-! ### SET PRINTER (R103) -/

theorem exec_setPrinter {f : PrinterFields} {s : State} (h : Listening s) :
    exec (.setPrinter (.fields f)) s = .next (setPrinter f (emptyLatch s)) :=
  congrArg Host.Outcome.next (hostCommand_listening f setPrinter h)

theorem printerFields_ne_iff (u f : PrinterFields) :
    u ≠ f ↔ u.lmin ≠ f.lmin ∨ u.lmax ≠ f.lmax ∨ u.upStep ≠ f.upStep ∨ u.downStep ≠ f.downStep
      ∨ u.waitThreshold ≠ f.waitThreshold ∨ u.marginThreshold ≠ f.marginThreshold := by
  cases u; cases f
  simp only [ne_eq, PrinterFields.mk.injEq, not_and_or]

/-- Settles O17. -/
theorem setPrinterConvertsSettings : Obligations.SetPrinterConvertsSettings := by
  intro f s h top low high up down wait margin converted
  refine ⟨fun hf => ?_, fun hf => ?_⟩
  · rw [exec_setPrinter h, setPrinter, if_pos hf, refuseWith_emptyLatch]
  · have hc : okOrClamped (printerUsed s.geometry f ≠ f) = if converted then .okClamped else .ok := by
      rw [okOrClamped_decide]
      exact if_congr (printerFields_ne_iff _ _) rfl rfl
    rw [exec_setPrinter h, setPrinter, if_neg (Nat.not_lt.mpr hf), ← hc]
    rfl

/-! ### SET GEOMETRY (R50, R103, R161) -/

theorem exec_setGeometry {f : GeometryFields} {s : State} (h : Listening s) :
    exec (.setGeometry (.fields f)) s = .next (setGeometry f (emptyLatch s)) :=
  congrArg Host.Outcome.next (hostCommand_listening f setGeometry h)

/-- A version names fitted inserts alone. -/
theorem versionFitted_iff (g : Geometry) (v : InsertSet) :
    versionFitted g v = true ↔ ∀ i, i < 6 → v.getLsbD i = true → g.fitted.getLsbD i = true := by
  rw [versionFitted, beq_iff_eq, BitVec.eq_of_getLsbD_eq_iff]
  refine forall_congr' fun i => imp_congr_right fun hi => ?_
  simp [hi]

theorem recordsFitted_iff (store : List Record) (g : Geometry) :
    recordsFitted store g = true
      ↔ ∀ r ∈ store, ∀ i, i < 6 → r.version.getLsbD i = true → g.fitted.getLsbD i = true := by
  simp only [recordsFitted, List.all_eq_true, versionFitted_iff]

/-- The fitted offsets are distinct exactly when no two fitted inserts share one. -/
theorem fittedOffsets_nodup_iff (f : GeometryFields) :
    (fittedOffsets f).Nodup ↔ ∀ i j, i < j → j < 6 → f.fitted.getLsbD i = true →
      f.fitted.getLsbD j = true → f.offsets.getD i 0 ≠ f.offsets.getD j 0 := by
  rw [fittedOffsets, List.Nodup, List.pairwise_map, List.pairwise_filter, List.pairwise_iff_getElem]
  simp only [List.length_range, List.getElem_range]
  exact ⟨fun h i j hij hj => h i j (hij.trans hj) hj hij, fun h i j hi hj hij => h i j hij hj⟩

theorem fittedOffsets_all_iff (f : GeometryFields) :
    (fittedOffsets f).all (fun o => inRange 1 (f.cOff - 1) o) = true
      ↔ ∀ i, i < 6 → f.fitted.getLsbD i = true →
        1 ≤ f.offsets.getD i 0 ∧ f.offsets.getD i 0 ≤ f.cOff - 1 := by
  simp only [fittedOffsets, inRange, List.all_map, List.all_filter, List.all_eq_true, List.mem_range,
    Function.comp_apply, Bool.or_eq_true, Bool.not_eq_true', Bool.and_eq_true, decide_eq_true_eq,
    ← Bool.not_eq_true, or_iff_not_imp_left, not_not]

/-- The model's checks are those of R50. -/
theorem geometryFits_iff (f : GeometryFields) (store : List Record) :
    (geometryInRange f && recordsFitted store (geometryOf f)) = true ↔ GeometryFits f store := by
  simp only [geometryInRange, Bool.and_eq_true, fittedOffsets_all_iff, decide_eq_true_eq,
    fittedOffsets_nodup_iff, recordsFitted_iff, GeometryFits, and_assoc, geometryOf]
  simp only [inRange, Bool.and_eq_true, decide_eq_true_eq, and_assoc]

theorem setGeometry_of_not_idle {f : GeometryFields} {s : State} (hl : s.line.state ≠ .idle) :
    setGeometry f s = refuseWith .state s := if_pos hl

theorem setGeometry_of_not_fits {f : GeometryFields} {s : State} (hl : s.line.state = .idle)
    (hf : ¬ GeometryFits f s.store) : setGeometry f s = refuseWith .range s := by
  rw [setGeometry, if_neg (not_not.mpr hl), if_neg (fun k => hf ((geometryFits_iff f s.store).mp k))]

/-- The in-pitch count, the backlash count and the units at a new C, field by field. -/
theorem bringWithin_eq (c : Nat) (s : State) : bringWithin c s =
    { s with
      line :=
        { s.line with
          inPitch := if c = s.geometry.c then s.line.inPitch else 0
          backlash := if c = s.geometry.c then s.line.backlash else 0 }
      units := if c = s.geometry.c then s.units else s.units.map (TimingUnit.atNewC c) } := by
  unfold bringWithin
  split <;> rfl

theorem setGeometry_of_fits {f : GeometryFields} {s : State} (hl : s.line.state = .idle)
    (hf : GeometryFits f s.store) : setGeometry f s =
      answer .ok (geometryBytes (geometryOf f))
        { bringWithin f.c s with
          geometry := geometryOf f
          carrier := (bringWithin f.c s).carrier.lowered (min 32 (4 * (f.cOff - 1))) } := by
  rw [setGeometry, if_neg (not_not.mpr hl), if_pos ((geometryFits_iff f s.store).mpr hf)]
  rfl

theorem insertOffset_geometryOf (f : GeometryFields) {i : Nat} (hi : i < 6) :
    insertOffset (geometryOf f) i = if f.fitted.getLsbD i then some (f.offsets.getD i 0) else none := by
  by_cases hf : f.fitted.getLsbD i = true
  · simp [insertOffset, geometryOf, List.getElem?_range hi, hf]
  · simp [insertOffset, geometryOf, hf]

/-- With no advance the effective phases are the phases (R168). -/
theorem compensate_zero {c : Nat} {t : TimingUnit} (hon : t.settings.on < c) (hoff : t.settings.off < c) :
    TimingUnit.compensate c 0 t =
      { t with
        advance := 0, effOn := t.settings.on, effOff := t.settings.off, compLimit := false } := by
  have e : (t.settings.on + (t.settings.off + c - t.settings.on) % c) % c = t.settings.off := by
    rw [Nat.add_mod_mod, show t.settings.on + (t.settings.off + c - t.settings.on) = t.settings.off + c
      by omega, Nat.add_mod_right, Nat.mod_eq_of_lt hoff]
  simp only [TimingUnit.compensate, Nat.sub_zero, e]
  simp

/-- A unit at a new C, from its phases there (R161). -/
theorem atNewC_eq {c : Nat} {t : TimingUnit} (hp : t.pending = none) {on off : Nat}
    (hw : t.settings.within c = { t.settings with on := on, off := off }) (hon : on < c)
    (hoff : off < c) :
    TimingUnit.atNewC c t =
      { t with
        settings := { t.settings with on := on, off := off }
        advance := 0
        effOn := on
        effOff := off
        compLimit := false
        ordered := false
        pulse := none
        window := none
        opened := false } := by
  rw [TimingUnit.atNewC, hw, hp, compensate_zero hon hoff]
  rfl

/-- Settles O12. -/
theorem setGeometryReplacesMap : Obligations.SetGeometryReplacesMap := by
  refine ⟨fun f s h => ⟨fun hl => ?_, fun hl hf => ?_, fun hl hf => ?_, rfl,
    fun i hi => insertOffset_geometryOf f hi⟩, fun c t hc hne hp => ?_⟩
  · rw [exec_setGeometry h, setGeometry_of_not_idle (s := emptyLatch s) hl, refuseWith_emptyLatch]
  · rw [exec_setGeometry h, setGeometry_of_not_fits (s := emptyLatch s) hl hf, refuseWith_emptyLatch]
  · rw [exec_setGeometry h, setGeometry_of_fits (s := emptyLatch s) hl hf, bringWithin_eq]
    rfl
  · intro apart on off
    have hw : t.settings.within c = { t.settings with on := on, off := off } := by
      unfold UnitSettings.within
      grind
    exact atNewC_eq hp hw (by grind) (by grind)

/-! ### SET UNIT (R160, R169) -/

theorem exec_setUnit {f : UnitFields} {s : State} (h : Listening s) :
    exec (.setUnit (.fields f)) s = .next (setUnit f (emptyLatch s)) :=
  congrArg Host.Outcome.next (hostCommand_listening f setUnit h)

theorem unitUsed_eq {g : Geometry} (hc : 0 < g.c) (f : UnitFields) : unitUsed g f =
    { f with
      on := if f.on < g.c then f.on else g.c - 1
      off := if f.off < g.c then f.off else g.c - 1
      latency := if isPulse f.unit then min 50000 f.latency else 0 } := by
  have cap (n : Nat) : min (g.c - 1) n = if n < g.c then n else g.c - 1 := by split_ifs <;> omega
  rw [unitUsed, cap, cap]

theorem unitUsed_ne_iff (g : Geometry) (f : UnitFields) : unitUsed g f ≠ f
    ↔ (unitUsed g f).on ≠ f.on ∨ (unitUsed g f).off ≠ f.off ∨ (unitUsed g f).latency ≠ f.latency := by
  cases f
  simp only [unitUsed, ne_eq, UnitFields.mk.injEq, true_and, not_and_or]

/-- A line at rest has no hold to end and no drain to complete. -/
theorem settle_at_rest {s : State} (h : s.line.state = .idle ∨ s.line.state = .stopped) :
    settle s = s := by
  have e : resumeIfClear s = s := if_neg (by rcases h with h | h <;> simp [h])
  rw [settle, e]
  exact if_neg (by rcases h with h | h <;> simp [h])

theorem freshGauge_line (b : Bool) (s : State) : (freshGauge b s).line = s.line := by
  unfold freshGauge
  split <;> rfl

theorem writeUnit_line (u : Nat) (n : UnitSettings) (s : State) : (writeUnit u n s).line = s.line := by
  unfold writeUnit
  dsimp only
  split
  · rfl
  · split
    · exact (openWindow_step u _).line
    · rfl

theorem setUnit_of_out_of_range {f : UnitFields} {s : State}
    (hr : 18 < f.unit ∨ (unitUsed s.geometry f).on = (unitUsed s.geometry f).off) :
    setUnit f s = refuseWith .range s := if_pos hr

section Setting
variable {f : UnitFields} {s : State} (hr : ¬ (18 < f.unit
  ∨ (unitUsed s.geometry f).on = (unitUsed s.geometry f).off))
include hr

theorem setUnit_in_motion (hl : ¬ (s.line.state = .idle ∨ s.line.state = .stopped)) : setUnit f s =
    answer (okOrClamped (unitUsed s.geometry f ≠ f)) (unitBytes (unitUsed s.geometry f) ++ le 1 1)
      (updateUnit f.unit (fun t => { t with pending := some (unitSettings (unitUsed s.geometry f)) }) s) := by
  rw [setUnit, if_neg hr, if_neg hl]

theorem setUnit_at_rest (hl : s.line.state = .idle ∨ s.line.state = .stopped) : setUnit f s =
    answer (okOrClamped (unitUsed s.geometry f ≠ f)) (unitBytes (unitUsed s.geometry f) ++ le 1 0)
      (writeUnit f.unit (unitSettings (unitUsed s.geometry f)) (freshGauge (f.unit == 16) s)) := by
  rw [setUnit, if_neg hr, if_pos hl, settle_at_rest]
  rwa [writeUnit_line, freshGauge_line]

end Setting

/-- An answer given after an act that leaves the host link alone. -/
theorem answer_of_host {c : ResultCode} {p : List Byte} {s t : State}
    (h : t.host = (emptyLatch s).host) : answer c p t = { t with host := s.host.answered c p } := by
  rw [answer, h]
  rfl

theorem writeUnit_host (u : Nat) (n : UnitSettings) (s : State) : (writeUnit u n s).host = s.host := by
  unfold writeUnit
  dsimp only
  split
  · rfl
  · split
    · exact (openWindow_step u _).host
    · rfl

/-- A list changed at a place depends on the change of the element there alone. -/
theorem modify_congr {α : Type} {l : List α} {i : Nat} {f g : α → α}
    (h : ∀ a, l[i]? = some a → f a = g a) : l.modify i f = l.modify i g := by
  refine List.ext_getElem? fun j => ?_
  rw [List.getElem?_modify, List.getElem?_modify]
  cases e : l[j]? with
  | none => rfl
  | some a =>
    by_cases hij : i = j
    · simp [hij, h a (hij ▸ e)]
    · simp [hij]

/-- The unit of a number, where it is one of the list. -/
theorem unitAt_of_getElem? {s : State} {u : Nat} {t : TimingUnit} (h : s.units[u]? = some t) :
    unitAt s u = t := by
  rw [unitAt, List.getD_eq_getElem?_getD, h]
  rfl

/-- The unit of a number once it has been changed. -/
theorem unitAt_updateUnit {s : State} {u : Nat} (f : TimingUnit → TimingUnit) (h : u < s.units.length) :
    unitAt (updateUnit u f s) u = f (unitAt s u) := by
  simp [unitAt, List.getD_eq_getElem?_getD, h]

/-- A unit with new settings in force, before they act on the current pitch (R169). -/
def TimingUnit.written (n : UnitSettings) (t : TimingUnit) : TimingUnit :=
  { t with
    settings := n, pending := none, advance := 0, effOn := n.on, effOff := n.off, compLimit := false }

section Written
variable {u : Nat} {n : UnitSettings} {s : State} (hon : n.on < s.geometry.c) (hoff : n.off < s.geometry.c)
include hon hoff

/-- What new settings do to a PULSE unit: they are written, and act on the order not yet begun. -/
theorem writeUnit_of_pulse (hu : isPulse u = true) : writeUnit u n s =
    { s with
      units := s.units.modify u (fun t => TimingUnit.resettle s.line.inPitch (t.written n)) } := by
  rw [writeUnit, if_pos hu]
  simp only [updateUnit, List.modify_modify_eq]
  exact congrArg (fun us => { s with units := us })
    (modify_congr fun t _ => congrArg _ (compensate_zero (t := { t with settings := n, pending := none }) hon hoff))

/-- What new settings do to a WINDOW unit: they are written, and open the pitch's window at once where
its open phase has been passed. -/
theorem writeUnit_of_window (hu : isPulse u = false) : writeUnit u n s =
    if (unitAt (updateUnit u (TimingUnit.written n) s) u).opened = false ∧ n.on ≤ s.line.inPitch then
      openWindow u (updateUnit u (TimingUnit.written n) s)
    else updateUnit u (TimingUnit.written n) s := by
  have e : updateUnit u
      (fun t => TimingUnit.compensate s.geometry.c 0 { t with settings := n, pending := none }) s
      = updateUnit u (TimingUnit.written n) s :=
    congrArg (fun us => { s with units := us })
      (modify_congr fun t _ => compensate_zero (t := { t with settings := n, pending := none }) hon hoff)
  simp only [writeUnit, e, hu, Bool.false_eq_true, if_false, Bool.and_eq_true, Bool.not_eq_true',
    decide_eq_true_eq]

end Written

section Resettle
variable {p : Nat} {n : UnitSettings} {t : TimingUnit}

theorem resettle_of_unordered (ho : t.ordered = false) :
    TimingUnit.resettle p (t.written n) = t.written n := by
  simp [TimingUnit.resettle, TimingUnit.written, ho]

theorem resettle_of_disabled (ho : t.ordered = true) (he : n.enable = false) :
    TimingUnit.resettle p (t.written n) = { t.written n with ordered := false } := by
  simp [TimingUnit.resettle, TimingUnit.written, ho, he]

theorem resettle_of_later (he : n.enable = true) (hp : p < n.on) :
    TimingUnit.resettle p (t.written n) = t.written n := by
  simp [TimingUnit.resettle, TimingUnit.written, he, hp]

theorem resettle_of_reached (ho : t.ordered = true) (he : n.enable = true) (hp : n.on ≤ p) :
    TimingUnit.resettle p (t.written n) = { t.written n with ordered := false, pulse := some n.off } := by
  simp [TimingUnit.resettle, TimingUnit.beginOrder, TimingUnit.written, ho, he, hp]

end Resettle

/-- Settles O18. -/
theorem setUnitWritesOrPends : Obligations.SetUnitWritesOrPends := by
  refine ⟨fun f s h hc => ?_, rfl, rfl⟩
  intro on off latency settings code bytes
  have hu : unitUsed s.geometry f = { f with on := on, off := off, latency := latency } := unitUsed_eq hc f
  have hcode : okOrClamped (unitUsed s.geometry f ≠ f) = code := by
    rw [okOrClamped_decide]
    refine if_congr ((unitUsed_ne_iff _ _).trans (by rw [hu])) rfl rfl
  have hbytes : unitBytes (unitUsed s.geometry f) = bytes := by rw [hu]; rfl
  have hset : unitSettings (unitUsed s.geometry f) = settings := by rw [hu]; rfl
  have hrange : (18 < f.unit ∨ (unitUsed s.geometry f).on = (unitUsed s.geometry f).off)
      ↔ (18 < f.unit ∨ on = off) := by rw [hu]
  have hon : on < s.geometry.c := by grind
  have hoff : off < s.geometry.c := by grind
  refine ⟨fun hr => ?refused, fun h18 hne hi hst => ?motion, fun h18 hne hl => ?rest, ?gauge, fun hne => ?_⟩
  case refused =>
    exact refuses_of_act (exec_setUnit h) (setUnit_of_out_of_range (s := emptyLatch s) (hrange.mpr hr))
  case motion =>
    rw [exec_setUnit h, setUnit_in_motion (s := emptyLatch s) (fun k => by have := hrange.mp k; omega)
      (by simp [hi, hst])]
    show Host.Outcome.next (answer (okOrClamped (unitUsed s.geometry f ≠ f))
      (unitBytes (unitUsed s.geometry f) ++ le 1 1) (updateUnit f.unit (fun t =>
        { t with pending := some (unitSettings (unitUsed s.geometry f)) }) (emptyLatch s))) = _
    rw [hcode, hbytes, hset]
    rfl
  case rest =>
    rw [exec_setUnit h, setUnit_at_rest (s := emptyLatch s) (fun k => by have := hrange.mp k; omega) hl]
    show Host.Outcome.next (answer (okOrClamped (unitUsed s.geometry f ≠ f))
      (unitBytes (unitUsed s.geometry f) ++ le 1 0) (writeUnit f.unit
        (unitSettings (unitUsed s.geometry f)) (freshGauge (f.unit == 16) (emptyLatch s)))) = _
    rw [hcode, hbytes, hset, answer_of_host (s := s) ((writeUnit_host _ _ _).trans (freshGauge_host _ _))]
    rfl
  case gauge =>
    intro sampled
    cases sampled
    · exact ⟨s.inputs.gauge, s.draws, rfl⟩
    · exact ⟨_, _, rfl⟩
  refine ⟨fun hp => ?pulse, fun hp => ?window⟩
  case pulse =>
    rw [writeUnit_of_pulse (n := settings) hon hoff hp]
    have act {g : TimingUnit → TimingUnit} (hg : TimingUnit.resettle s.line.inPitch
        ((unitAt s f.unit).written settings) = g ((unitAt s f.unit).written settings)) :
        { s with
          units := s.units.modify f.unit
            (fun t => TimingUnit.resettle s.line.inPitch (t.written settings)) }
        = { s with units := s.units.modify f.unit (fun t => g (t.written settings)) } :=
      congrArg (fun us => { s with units := us })
        (modify_congr fun t ht => unitAt_of_getElem? ht ▸ hg)
    refine ⟨fun ho => act (g := id) (resettle_of_unordered ho), fun ho => ⟨fun he => ?_, fun he hl => ?_,
      fun he hl => ?_⟩⟩
    · exact act (g := fun t => { t with ordered := false }) (resettle_of_disabled ho he)
    · exact act (g := id) (resettle_of_later he hl)
    · exact act (g := fun t => { t with ordered := false, pulse := some off })
        (resettle_of_reached ho he hl)
  case window =>
    rw [writeUnit_of_window (n := settings) hon hoff hp]
    refine ⟨fun ho => if_neg fun ⟨hopen, hle⟩ => ?_, fun hlen ho hle => if_pos ⟨?_, hle⟩⟩
    · rcases ho with ho | ho
      · have hlen : f.unit < s.units.length := by
          by_contra hlen
          have e : unitAt s f.unit = TimingUnit.initial := by
            rw [unitAt, List.getD_eq_getElem?_getD, List.getElem?_eq_none (Nat.le_of_not_lt hlen)]
            rfl
          exact absurd (e ▸ ho) (by decide)
        rw [unitAt_updateUnit _ hlen] at hopen
        exact absurd (ho.symm.trans hopen) (by decide)
      · exact absurd hle (Nat.not_le.mpr ho)
    · rw [unitAt_updateUnit _ hlen]
      exact ho

/-! ### SET HOLD (R60, R147, R156) -/

theorem exec_setHold {f : HoldFields} {s : State} (h : Listening s) :
    exec (.setHold (.fields f)) s = .next (setHold f (emptyLatch s)) :=
  congrArg Host.Outcome.next (hostCommand_listening f setHold h)

theorem holdFields_ne_iff (u f : HoldFields) : u ≠ f
    ↔ u.lineLimit ≠ f.lineLimit ∨ u.bundleLimit ≠ f.bundleLimit ∨ u.ejectLimit ≠ f.ejectLimit := by
  cases u; cases f
  simp only [ne_eq, HoldFields.mk.injEq, not_and_or]

/-- With no bundle EJECTING no pocket is. -/
theorem pocketState_ne_ejecting {s : State} (h : anyEjecting s = false) (p : PocketId) :
    pocketState s p ≠ .ejecting := by
  rw [ne_eq, pocketState_ejecting_iff]
  rintro ⟨b, hb, hst⟩
  have := List.any_eq_false.mp h b (List.mem_of_find?_eq_some hb)
  simp [hst] at this

theorem ejectRemaining_none {s : State} (h : anyEjecting s = false) (p : PocketId) :
    ejectRemaining s p = none :=
  if_neg fun k => pocketState_ne_ejecting h p k.1

/-- With no pocket EJECTING the hold limit is the only one that can expire. -/
theorem nextExpiry_of_not_ejecting {s : State} (h : anyEjecting s = false) :
    nextExpiry s = (holdRemaining s).map (fun t => (t, Expiry.hold)) := by
  rw [nextExpiry, ejectRemaining_none h, ejectRemaining_none h]
  cases holdRemaining s <;> rfl

/-- No time passed, with no timer running. -/
theorem advanceTimers_zero {s : State} (h : anyEjecting s = false) (hl : s.line.state ≠ .holding)
    (hr : s.startup.rdyIn = none) : advanceTimers 0 s = s := by
  have hm : s.line.sinceMark.map (fun t => t + 0) = s.line.sinceMark := by simp
  simp only [advanceTimers, pocketState_ne_ejecting h, hl, if_false, hr, Option.bind_none]
  rw [hm, ← hr]

theorem passTime_zero_of_still {s : State} (h : anyEjecting s = false) (hl : s.line.state ≠ .holding)
    (hr : s.startup.rdyIn = none) : passTime 0 s = s := by
  have e : holdRemaining s = none := if_neg fun k => hl k.1
  rw [passTime_eq, nextExpiry_of_not_ejecting h, e]
  exact advanceTimers_zero h hl hr

/-- A hold limit that the timer has reached is taken at once: the line is FAULTED, its hold causes and
its pieces as they were. -/
theorem passTime_zero_of_expired {s : State} (h : anyEjecting s = false) (hl : s.line.state = .holding)
    (h0 : s.line.holdLimit ≠ 0) (hle : s.line.holdLimit ≤ s.line.holdTimer.ms)
    (hr : s.startup.rdyIn = none) :
    (passTime 0 s).line.state = .faulted ∧ (passTime 0 s).line.first = some .holdTimeout
      ∧ (passTime 0 s).holds = s.holds ∧ (passTime 0 s).tracking = s.tracking := by
  have e : holdRemaining s = some 0 := by
    rw [holdRemaining, if_pos ⟨hl, h0⟩, MsTimer.total, Nat.sub_eq_zero_of_le (by omega)]
  have ht : takeExpiry .hold (advanceTimers 0 s)
      = enterFault .holdTimeout { advanceTimers 0 s with draws := s.draws + 1 } := by
    simp only [takeExpiry, takeHoldTimeout, takeFault, advanceTimers, hl]
  have hp : passTime 0 s = passTime 0 (takeExpiry .hold (advanceTimers 0 s)) := by
    rw [passTime_eq, nextExpiry_of_not_ejecting h, e]
    rfl
  rw [hp, ht, passTime_zero_of_still]
  · exact ⟨rfl, rfl, rfl, rfl⟩
  · exact h
  · nofun
  · show s.startup.rdyIn.bind _ = none
    rw [hr]
    rfl

/-- Settles O19. -/
theorem setHoldReplacesLimits : Obligations.SetHoldReplacesLimits := by
  intro f s h line bundle eject code host t
  have hcode : okOrClamped (holdUsed f ≠ f) = code := by
    rw [okOrClamped_decide]
    exact if_congr (holdFields_ne_iff _ _) rfl rfl
  have he : exec (.setHold (.fields f)) s = .next { passTime 0 t with host := host } := by
    rw [exec_setHold h, setHold, hcode]
    exact congrArg Host.Outcome.next (answer_of_host (s := s) (passTime_motion 0 t).host)
  have hr : t.startup.rdyIn = none := by
    show s.startup.rdyIn = none
    rw [h.1.2]
    rfl
  refine ⟨he, fun hl hj => ?_, fun hl hj h0 hle => ⟨_, he, passTime_zero_of_expired hj hl h0 hle hr⟩⟩
  rw [he, passTime_zero_of_still (s := t) hj hl hr]

end Sys2Proof.Machine

/-! PROOF. The bytes of the STATUS payload, the FIND answer, the exception entries and the snapshot items,
and O7, O9, O10, O31 and O36. -/

namespace Sys2Proof.Machine

/-! ### Enumerations are numbered in the order of their rules (R196) -/

theorem LineState.value_eq_idxOf (x : LineState) :
    x.value = [LineState.idle, .stopped, .running, .draining, .holding, .faulted].idxOf x := by
  cases x <;> rfl

theorem FaultCause.index_eq_idxOf (x : FaultCause) :
    x.index = [FaultCause.jam, .filmbrk, .guard, .reverse, .overrun, .holdTimeout, .carrierSlip,
      .pocketJam].idxOf x := by
  cases x <;> rfl

theorem GapCause.value_eq_idxOf (x : GapCause) :
    x.value = [GapCause.noCandidate, .drainOnly, .exceptionLimit, .planFull, .planClosed,
      .bundleFull].idxOf x := by
  cases x <;> rfl

theorem RecordState.value_eq_idxOf (x : RecordState) :
    x.value = [RecordState.free, .queued, .inFlight, .stacked, .bundled, .exception].idxOf x := by
  cases x <;> rfl

theorem Kind.value_eq_idxOf (x : Kind) : x.value = [Kind.normal, .remake, .return].idxOf x := by
  cases x <;> rfl

theorem Disposition.value_eq_idxOf (x : Disposition) :
    x.value = [Disposition.mailed, .spoiled, .lateMade, .lateUnmade, .withdrawn].idxOf x := by
  cases x <;> rfl

theorem DefectCause.value_eq_idxOf (x : DefectCause) :
    x.value = [DefectCause.magDouble, .insertMiss, .insertDouble, .noPrint, .noRead, .keyMismatch,
      .wrapAbort, .cutFault, .thickLow, .thickHigh].idxOf x + 1 := by
  cases x <;> rfl

theorem DefectStation.value_eq_idxOf (x : DefectStation) :
    x.value = [DefectStation.magazine, .insert 0, .insert 1, .insert 2, .insert 3, .insert 4, .insert 5,
      .carrier, .verify, .wrap, .cut, .gauge].idxOf x := by
  cases x with
  | insert i => revert i; decide
  | _ => rfl

theorem Stage.rank_eq_idxOf (x : Stage) :
    x.rank = [Stage.called, .fed, .collating, .carried, .verified, .wrapped, .cut, .gauged,
      .passing].idxOf x := by
  cases x <;> rfl

theorem JobState.value_eq_idxOf (x : JobState) :
    x.value = [JobState.none, .due, .sent, .accepted, .printed, .refused, .cancelled].idxOf x := by
  cases x <;> rfl

theorem Grade.value_eq_idxOf (x : Grade) :
    x.value = [Grade.good, .marginal, .noRead, .slip, .mismatch, .timeout].idxOf x := by
  cases x <;> rfl

/-! ### Numbers and sets -/

/-- Byte `k` of a number is its digit of weight 256 to the `k`. -/
theorem le_getElem? (n v k : Nat) (h : k < n) : (le n v)[k]? = some (BitVec.ofNat 8 (v / 256 ^ k)) := by
  induction n generalizing v k with
  | zero => exact absurd h (Nat.not_lt_zero k)
  | succ n ih =>
    cases k with
    | zero => simp [le]
    | succ k => rw [le, List.getElem?_cons_succ, ih _ _ (Nat.lt_of_succ_lt_succ h), Nat.div_div_eq_div_mul,
        Nat.pow_succ']

theorem flagBits_testBit (flags : List Bool) (k : Nat) :
    (flagBits flags).testBit k = flags.getD k false := by
  induction flags generalizing k with
  | nil => simp [flagBits]
  | cons b bs ih =>
    cases k with
    | zero => cases b <;> simp [flagBits, Nat.testBit_zero, Nat.add_mod]
    | succ k =>
      have e : (b.toNat + 2 * flagBits bs) / 2 = flagBits bs := by
        cases b
        · exact (congrArg (· / 2) (Nat.zero_add _)).trans (Nat.mul_div_cancel_left _ (by decide))
        · show (1 + 2 * flagBits bs) / 2 = _
          omega
      rw [flagBits, Nat.testBit_succ, e, ih]
      rfl

theorem bits6_toNat (b0 b1 b2 b3 b4 b5 : Bool) :
    (bits6 b0 b1 b2 b3 b4 b5).toNat = flagBits [b0, b1, b2, b3, b4, b5] := by
  revert b0 b1 b2 b3 b4 b5
  decide

/-! ### The STATUS payload (R189) -/

/-- The NORMAL records of the queue, counted by their keys or by themselves. -/
theorem normalCount_eq (s : State) : normalCount s
    = ((s.queue.order.filterMap (findRecord s)).filter (fun r => r.kind = .normal)).length := by
  unfold normalCount
  induction s.queue.order with
  | nil => rfl
  | cons k ks ih =>
    cases h : findRecord s k with
    | none => simpa [List.filter_cons, List.filterMap_cons, isNormal, h] using ih
    | some r =>
      by_cases hr : r.kind = .normal <;>
        simpa [List.filter_cons, List.filterMap_cons, isNormal, h, hr] using ih

theorem snapshotStands_eq (s : State) : snapshotStands s = decide (s.host.lineItem ≠ none
    ∨ s.host.positionItems ≠ [] ∨ s.host.unitItems ≠ []) := by
  rw [Bool.eq_iff_iff, decide_eq_true_iff]
  simp only [snapshotStands, Bool.or_eq_true, Bool.not_eq_true', List.isEmpty_eq_false_iff,
    Option.isSome_iff_ne_none, or_assoc]

/-- The state of a pocket, as its number, by the bundle it holds (R133). -/
theorem pocketState_value (s : State) (p : PocketId) : (pocketState s p).value = match bundleIn s p with
    | none => 0
    | some b => if b.state = .held then 2 else if b.state = .ejecting then 3 else 1 := by
  unfold pocketState
  cases bundleIn s p with
  | none => rfl
  | some b => cases h : b.state <;> simp [PocketState.value, h]

theorem PocketState.value_eq_three (x : PocketState) : x.value = 3 ↔ x = .ejecting := by
  cases x <;> decide

theorem flag_ejectOutput {s : State} (h : s.inputs.reset = false) (p : PocketId) :
    flag (ejectOutput s p) = le 1 (if (pocketState s p).value = 3 then 1 else 0) := by
  rw [flag, ejectOutput, h, Bool.not_false, Bool.and_true]
  by_cases hp : pocketState s p = .ejecting
  · simp [hp, PocketState.value]
  · simp [hp, PocketState.value_eq_three]

theorem length_geometryBytes {g : Geometry} (h : g.offsets.length = 6) : (geometryBytes g).length = 16 := by
  simp [geometryBytes, h]

theorem length_statusPayload {s : State} (h : s.geometry.offsets.length = 6) :
    (statusPayload s).length = 141 := by
  have hl : (latchBytes s.host.latch).length = 4 := by cases s.host.latch <;> simp [latchBytes]
  have ho : (operationByte s.host.operation).length = 1 := by
    rcases s.host.operation with _ | _ | _ <;> simp [operationByte]
  simp [statusPayload, statusPresence, statusPart, statusLine, statusRecords, statusBundles,
    statusCarrier, statusSettings, leOpt, flag, pocketBytes, unitSetBytes, limitBytes,
    length_geometryBytes h, hl, ho]

theorem exec_status {s : State} (h : TakesFrames s) : exec (.status (.fields ())) s
    = .next { s with host := { s.host with slot := .formed .ok (statusPayload s) } } :=
  congrArg Host.Outcome.next (takeFrame_taken (takeStatus (.fields ())) h)

/-- Settles O7. -/
theorem statusReportsWithoutChange : Obligations.StatusReportsWithoutChange := by
  refine ⟨fun s h => ?_, fun n v k => ⟨length_le n v, le_getElem? n v k⟩, flagBits_testBit⟩
  intro latch operation cause gap held pocket ejects presence part line normals standing attention
    records tracking bundles carrier verify diverter g settings units
  refine ⟨exec_status h, length_statusPayload, ?_⟩
  have hlatch : latchBytes s.host.latch = latch := by
    cases e : s.host.latch <;> simp only [latch, e] <;> rfl
  have hop : operationByte s.host.operation = [operation] := by
    rcases e : s.host.operation with _ | _ | _ <;> simp only [operation, e] <;> rfl
  have hheld (p : PocketId) : (pocketState s p).value = held p := pocketState_value s p
  have hpocket (p : PocketId) : pocketBytes s p = pocket p := by
    rw [pocketBytes, hheld]
    rfl
  have heject (p : PocketId) : flag (ejectOutput s p) = le 1 (ejects p) := by
    rw [flag_ejectOutput h.1, hheld]
  have hpart : statusPart s = part := by
    rw [statusPart, hlatch, hop, LineState.value_eq_idxOf]
    rfl
  have hline : statusLine s = line := by
    have hc : FaultCause.index = cause := funext FaultCause.index_eq_idxOf
    rw [statusLine, hc]
    rfl
  have hattention : le 1 (Machine.standing s).toNat ++ le 1 s.host.attention.toNat = attention := by
    have hq : queueLowStands s
        = decide (s.line.state ≠ .idle ∧ s.line.drain = false ∧ normals ≤ s.queue.lowWater) := by
      rw [queueLowStands, normalCount_eq, Bool.decide_and, Bool.decide_and, Bool.and_assoc]
      cases s.line.drain <;> rfl
    rw [Machine.standing, bits6_toNat, hq, snapshotStands_eq]
    rfl
  have hrecords : statusRecords s = attention ++ records ++ tracking := by
    have hc : GapCause.value = gap := funext GapCause.value_eq_idxOf
    rw [statusRecords, hc, hattention, normalCount_eq]
    simp only [records, tracking, List.append_assoc]
    rfl
  have hbundles : statusBundles s = bundles := by
    simp only [statusBundles, bundles, hpocket, heject]
    cases s.stacker.lastFreed with
    | none => simp only [List.append_assoc]; rfl
    | some f =>
      simp only [Option.map_some, leOpt, Option.getD_some, CloseReason.value_eq_idxOf, List.append_assoc]
  have hcarrier : statusCarrier s = carrier ++ verify := by
    have hr : flag (!s.carrier.ready) = le 1 (if s.carrier.ready = true then 0 else 1) := by
      cases s.carrier.ready <;> rfl
    simp only [statusCarrier, carrier, verify, hr]
    cases s.carrier.lastRefusal with
    | none => simp only [List.append_assoc]; rfl
    | some r => simp only [Option.map_some, leOpt, Option.getD_some, List.append_assoc]
  have hsettings : statusSettings s = diverter ++ settings ++ units := by
    simp only [statusSettings, diverter, settings, units, geometryBytes, limitBytes, requiredSet,
      unitSetBytes, g, List.append_assoc]
    rfl
  rw [statusPayload, hpart, hline, hrecords, hbundles, hcarrier, hsettings]
  simp only [List.append_assoc]
  rfl

/-! ### FIND (R18) -/

theorem exec_find {key : Nat} {s : State} (h : Listening s) :
    exec (.find (.fields key)) s = .next (find key (emptyLatch s)) :=
  congrArg Host.Outcome.next (hostCommand_listening key find h)

/-- The queue position counts from 1 (R8). -/
theorem queuePosition_of_getElem? {s : State} {r : Record} {i : Nat} (hr : r.state = .queued)
    (hn : s.queue.order.Nodup) (hi : s.queue.order[i]? = some r.key) :
    queuePosition s r = some (i + 1) := by
  obtain ⟨hl, hk⟩ := List.getElem?_eq_some_iff.mp hi
  rw [queuePosition, if_pos hr, ← hk, hn.idxOf_getElem]

theorem foundPiece_eq (s : State) (r : Record) : foundPiece s r =
    if r.state = .inFlight then (pieceOf s r.key).map (fun p => p.number)
    else if r.state = .exception then
      (s.stacker.exceptions.find? (fun e => e.key == r.key)).bind (fun e => e.piece)
    else none := by
  unfold foundPiece
  cases r.state <;> rfl

/-- Settles O31. -/
theorem findReportsRecord : Obligations.FindReportsRecord := by
  refine ⟨fun key s h => ⟨fun hk => ?_, fun r hk => ?_,
    fun r i hr hn hi => queuePosition_of_getElem? hr hn hi, fun r hr => if_neg hr⟩, fun s r => ?_⟩
  · rw [exec_find h, find, show findRecord (emptyLatch s) key = none from hk]
    rfl
  · rw [exec_find h, find, show findRecord (emptyLatch s) key = some r from hk]
    rfl
  · intro queued piece cause outcome
    have hpiece : foundPiece s r = piece := foundPiece_eq s r
    have hcause : DefectCause.value = cause := funext DefectCause.value_eq_idxOf
    have houtcome : Disposition.value = outcome := funext Disposition.value_eq_idxOf
    have hplace : (queuePosition s r).isSome = queued := by
      simp only [queuePosition, queued]
      split <;> simp_all
    simp only [findPayload, hpiece, hcause, houtcome, hplace, Option.isSome_map,
      RecordState.value_eq_idxOf, Kind.value_eq_idxOf]
    by_cases hq : r.state = .queued
    · simp only [queued, hq]
      rfl
    · simp only [queued, hq]
      rfl

/-! ### READ EXCEPTIONS and RELEASE EXCEPTIONS (R153, R154) -/

theorem exec_releaseExceptions {n : Nat} {s : State} (h : Listening s) :
    exec (.releaseExceptions (.fields n)) s = .next (releaseExceptions n (emptyLatch s)) :=
  congrArg Host.Outcome.next (hostCommand_listening n releaseExceptions h)

theorem releaseExceptions_of_out_of_range {n : Nat} {s : State} (hn : n < 1 ∨ 128 < n) :
    releaseExceptions n s = refuseWith .range s := if_pos hn

theorem releaseExceptions_of_range {n : Nat} {s : State} (h1 : 1 ≤ n) (h2 : n ≤ 128) :
    releaseExceptions n s =
      answer .ok (le 1 (s.stacker.exceptions.take n).length)
        { s with
          store := s.store.filter (fun r => r.key ∉ (s.stacker.exceptions.take n).map (fun e => e.key))
          queue :=
            { s.queue with
              order := s.queue.order.filter
                (fun k => k ∉ (s.stacker.exceptions.take n).map (fun e => e.key)) }
          stacker := { s.stacker with exceptions := s.stacker.exceptions.drop n } } := by
  rw [releaseExceptions, if_neg (by omega)]
  dsimp only
  rw [freeRecords_eq]

/-- Settles O36. -/
theorem exceptionsAreReadAndReleased : Obligations.ExceptionsAreReadAndReleased := by
  refine ⟨fun s h => ⟨?_, fun n => ⟨fun hn => ?_, fun h1 h2 => ⟨1, le_refl 1, ?_⟩⟩⟩, fun e => ?_⟩
  · exact congrArg Host.Outcome.next (hostCommand_listening () _ h)
  · exact refuses_of_act (exec_releaseExceptions h) (releaseExceptions_of_out_of_range hn)
  · rw [exec_releaseExceptions h, releaseExceptions_of_range h1 h2, List.length_map]
    rfl
  · intro cause piece
    have hcause : leOpt 1 (e.defect.map DefectCause.value) = le 1 cause := by
      simp only [cause]
      cases e.defect with
      | none => rfl
      | some c => exact congrArg (le 1) (DefectCause.value_eq_idxOf c)
    have hpiece : leOpt 2 (e.piece.map BitVec.toNat) = le 2 piece := by
      simp only [piece]
      cases e.piece <;> rfl
    refine ⟨?_, by simp [exceptionEntry, leOpt]⟩
    rw [exceptionEntry, hcause, hpiece, Disposition.value_eq_idxOf]

/-! ### SNAPSHOT (R192, R193) -/

theorem exec_snapshot {f : SnapshotFields} {s : State} (h : Listening s) :
    exec (.snapshot (.fields f)) s = .next (snapshot f (emptyLatch s)) :=
  congrArg Host.Outcome.next (hostCommand_listening f snapshot h)

/-- The model's checks are those of R192. -/
theorem snapshotInRange_iff (s : State) (f : SnapshotFields) : snapshotInRange s f = true ↔
    f.line ≤ 1 ∧ (f.line = 1 ∨ namedPositions f ≠ [] ∨ namedUnits f ≠ [])
      ∧ (∀ n ∈ namedPositions f, s.geometry.isSet = true ∧ n ≤ s.geometry.s)
      ∧ ∀ u ∈ namedUnits f, u ≤ 18 := by
  simp only [snapshotInRange, Bool.and_eq_true, Bool.or_eq_true, decide_eq_true_eq, beq_iff_eq,
    List.all_eq_true, Bool.not_eq_true', List.isEmpty_eq_false_iff, or_assoc, and_assoc]

section Latching
variable {α : Type} {key : α → Nat} {f : Nat → Option α} (hf : ∀ n a, f n = some a → key a = n)
include hf

/-- Items made for indices, each with its own index, stand in the order of the indices. -/
theorem filterMap_map_key (l : List Nat) :
    (l.filterMap f).map key = l.filter (fun n => (f n).isSome) := by
  induction l with
  | nil => rfl
  | cons n l ih =>
    cases e : f n with
    | none => simpa [List.filterMap_cons, List.filter_cons, e] using ih
    | some a => simpa [List.filterMap_cons, List.filter_cons, e, hf n a e] using ih

theorem filterMap_pairwise (m : Nat) :
    (((List.range m).filterMap f).map key).Pairwise (fun a b => a < b) := by
  rw [filterMap_map_key hf]
  exact List.pairwise_lt_range.filter _

/-- The item of an index is the one made for it. -/
theorem filterMap_find? {m n : Nat} (hn : n < m) :
    ((List.range m).filterMap f).find? (fun a => key a == n) = f n := by
  rw [List.find?_filterMap]
  have hp : ∀ k, (f k).any (fun a => key a == n) = (decide (k = n) && (f n).isSome) := by
    intro k
    cases e : f k with
    | none =>
      by_cases hk : k = n
      · simp [← hk, e]
      · simp [hk]
    | some a =>
      by_cases hk : k = n
      · simp [hf k a e, ← hk, e]
      · simp [hf k a e, hk]
  simp only [hp]
  cases e : f n with
  | none => simp
  | some a =>
    have : (List.range m).find? (fun k => decide (k = n)) = some n := by
      simp [List.find?_range_eq_some, hn]
      omega
    simp [this, e]

end Latching

/-- The position item of an index after a SNAPSHOT: the latched one, or, if named, a new one. -/
def positionItemFor (s : State) (named : List Nat) (n : Nat) : Option PositionItem :=
  (s.host.positionItems.find? (fun i => i.position == n)).or
    (if n ∈ named then some (positionItemNow s n) else none)

/-- The unit item of a unit after a SNAPSHOT: the latched one, or, if named, a new one. -/
def unitItemFor (s : State) (named : List Nat) (u : Nat) : Option UnitItem :=
  (s.host.unitItems.find? (fun i => i.unit == u)).or (if u ∈ named then some (unitItemNow s u) else none)

theorem latchPositions_eq (s : State) (named : List Nat) :
    latchPositions s named = (List.range 64).filterMap (positionItemFor s named) := by
  refine congrFun (congrArg List.filterMap (funext fun n => ?_)) _
  rw [positionItemFor]
  cases s.host.positionItems.find? (fun i => i.position == n) <;> rfl

theorem latchUnits_eq (s : State) (named : List Nat) :
    latchUnits s named = (List.range 19).filterMap (unitItemFor s named) := by
  refine congrFun (congrArg List.filterMap (funext fun u => ?_)) _
  rw [unitItemFor]
  cases s.host.unitItems.find? (fun i => i.unit == u) <;> rfl

theorem positionItemFor_position (s : State) (named : List Nat) (n : Nat) (i : PositionItem)
    (h : positionItemFor s named n = some i) : i.position = n := by
  rcases Option.or_eq_some_iff.mp h with h | ⟨_, h⟩
  · exact find?_key (key := fun i : PositionItem => i.position) h
  · split at h
    · exact Option.some.inj h ▸ rfl
    · cases h

theorem unitItemFor_unit (s : State) (named : List Nat) (u : Nat) (i : UnitItem)
    (h : unitItemFor s named u = some i) : i.unit = u := by
  rcases Option.or_eq_some_iff.mp h with h | ⟨_, h⟩
  · exact find?_key (key := fun i : UnitItem => i.unit) h
  · split at h
    · exact Option.some.inj h ▸ rfl
    · cases h

/-- The host link after a SNAPSHOT that its checks pass. -/
theorem exec_snapshot_of_inRange {f : SnapshotFields} {s : State} (h : Listening s)
    (hf : snapshotInRange s f = true) : exec (.snapshot (.fields f)) s = .next
      { s with
        host := (latchItems f s).answered .ok (le 1 (latchedCount (latchItems f s) - latchedCount s.host)
          ++ le 1 (f.line + (namedPositions f).length + (namedUnits f).length
            - (latchedCount (latchItems f s) - latchedCount s.host))) } := by
  rw [exec_snapshot h, snapshot, if_pos (show snapshotInRange (emptyLatch s) f = true from hf)]
  rfl

theorem latchedCount_eq (h : HostLink) : latchedCount h
    = (if h.lineItem = none then 0 else 1) + h.positionItems.length + h.unitItems.length := by
  rw [latchedCount]
  cases h.lineItem <;> rfl

/-- Settles O9. -/
theorem snapshotLatchesNamedItems : Obligations.SnapshotLatchesNamedItems := by
  refine ⟨fun f s h => ?_, latchedCount_eq, fun s n => ⟨fun hp => ?_, fun p hp => ?_⟩⟩
  · intro named units fits
    have hfits : snapshotInRange s f = true ↔ fits := snapshotInRange_iff s f
    refine ⟨fun hf => ?_, fun hf => ⟨latchItems f s, _, exec_snapshot_of_inRange h (hfits.mpr hf), rfl,
      rfl, ?_, ?_, ?_, fun n hn => ?_, fun u hu => ?_⟩⟩
    · have hf' : ¬ snapshotInRange (emptyLatch s) f = true := fun k => hf (hfits.mp k)
      rw [exec_snapshot h, snapshot, if_neg hf']
      rfl
    · show ((latchPositions s named).map _).Pairwise _
      rw [latchPositions_eq]
      exact filterMap_pairwise (positionItemFor_position s named) 64
    · show ((latchUnits s units).map _).Pairwise _
      rw [latchUnits_eq]
      exact filterMap_pairwise (unitItemFor_unit s units) 19
    · show (if f.line = 1 then some (s.host.lineItem.getD (lineItemNow s)) else s.host.lineItem) = _
      split
      · cases s.host.lineItem <;> rfl
      · simp
    · show (latchPositions s named).find? _ = _
      rw [latchPositions_eq]
      exact filterMap_find? (positionItemFor_position s named) hn
    · show (latchUnits s units).find? _ = _
      rw [latchUnits_eq]
      exact filterMap_find? (unitItemFor_unit s units) hu
  · simp only [positionItemNow, hp]
    rfl
  · have hn : position s p = n := find?_key (key := position s) hp
    simp only [positionItemNow, hp, Option.any_some, Option.map_some, readoutNow, hn]

/-! ### READ SNAPSHOT (R194) -/

theorem exec_readSnapshot {s : State} (h : Listening s) :
    exec (.readSnapshot (.fields ())) s = .next (readSnapshot (emptyLatch s)) :=
  congrArg Host.Outcome.next (hostCommand_listening () _ h)

/-- The items that fit are the first ones. -/
theorem fitting_append_drop (room : Nat) (bs : List (List Byte)) :
    fitting room bs ++ bs.drop (fitting room bs).length = bs := by
  induction bs generalizing room with
  | nil => rfl
  | cons b bs ih =>
    rw [fitting]
    split
    · simp [ih]
    · rfl

theorem fitting_length_le (room : Nat) (bs : List (List Byte)) :
    (fitting room bs).flatten.length ≤ room := by
  induction bs generalizing room with
  | nil => exact Nat.zero_le _
  | cons b bs ih =>
    rw [fitting]
    split
    next h =>
      have := ih (room - b.length)
      rw [List.flatten_cons, List.length_append]
      omega
    next => exact Nat.zero_le _

/-- The first item left does not fit. -/
theorem fitting_next (room : Nat) (bs : List (List Byte)) {b : List Byte} {rest : List (List Byte)}
    (h : bs.drop (fitting room bs).length = b :: rest) :
    room < (fitting room bs).flatten.length + b.length := by
  induction bs generalizing room with
  | nil => cases h
  | cons a bs ih =>
    rw [fitting] at h ⊢
    split at h
    next ha =>
      rw [if_pos ha, List.flatten_cons, List.length_append]
      have := ih (room - a.length) h
      omega
    next ha =>
      obtain ⟨rfl, -⟩ := List.cons.inj h
      rw [if_neg ha, List.flatten_nil, List.length_nil]
      omega

theorem latchedBytes_length (h : HostLink) : (latchedBytes h).length = latchedCount h := by
  simp only [latchedBytes, latchedCount, List.length_append, List.length_map]
  cases h.lineItem <;> rfl

/-- Items unlatched are the first ones (R194). -/
theorem latchedBytes_unlatch (n : Nat) (h : HostLink) :
    latchedBytes (h.unlatch n) = (latchedBytes h).drop n := by
  simp only [latchedBytes, HostLink.unlatch, List.drop_append, List.map_drop, List.length_map, List.append_assoc]
  cases h.lineItem with
  | none => simp
  | some i =>
    cases n with
    | zero => simp
    | succ n => simp

/-- Settles O10. -/
theorem readSnapshotReturnsAndUnlatches : Obligations.ReadSnapshotReturnsAndUnlatches := by
  unfold Obligations.ReadSnapshotReturnsAndUnlatches
  intro item cause lineBytes defectBytes pieceBytes positionBytes pendingBytes unitContent
  have hcause : FaultCause.index = cause := funext FaultCause.index_eq_idxOf
  have hline (i : LineItem) : lineItemBytes i = item 1 0 (lineBytes i) := by
    simp only [lineItemBytes, item, lineBytes, snapshotItem, hcause, LineState.value_eq_idxOf]
    rfl
  have hpiece (r : PieceReadout) : pieceReadout r = pieceBytes r := by
    have hd : (fun d : Defect => le 1 d.cause.value ++ le 1 d.station.value) = defectBytes :=
      funext fun d => by rw [DefectCause.value_eq_idxOf, DefectStation.value_eq_idxOf]
    delta pieceReadout
    simp only [pieceBytes, hd, Stage.rank_eq_idxOf, JobState.value_eq_idxOf]
    cases r.piece.verify with
    | none => simp only [List.append_assoc]; rfl
    | some v =>
      simp only [Option.map_some, Option.bind_some, leOpt, Option.getD_some, Grade.value_eq_idxOf,
        List.append_assoc]
      rfl
  have hposition (i : PositionItem) : positionItemBytes i = item 2 i.position (positionBytes i) := by
    simp only [positionItemBytes, positionBytes, hpiece]
    cases i.occupant with
    | none => simp only [List.append_nil]; rfl
    | some r => rfl
  have hunit (i : UnitItem) : unitItemBytes i = item 3 i.unit (unitContent i.unit i.content) := by
    obtain ⟨u, t⟩ := i
    have hkind : flag (!isPulse u) = le 1 (if isPulse u = true then 0 else 1) := by
      cases isPulse u <;> rfl
    have hactivity : unitActivity u t = if isPulse u = true then
          (if t.ordered = true then 1 else if t.pulse ≠ none then 2 else 0)
        else if t.window = none then 0 else 1 := by
      rw [unitActivity]
      cases t.window <;> cases t.pulse <;> rfl
    have hlevel : (t.pulse.isSome || (u == 16 && t.window.any (fun w => w.enabled)))
        = if u = 16 then t.pulse.isSome || t.window.any (fun w => w.enabled) else t.pulse.isSome := by
      by_cases hu : u = 16 <;> simp [hu]
    have hends : leOpt 2 (if isPulse u = true then t.pulse else t.window.map (fun w => w.close))
        = le 2 (if isPulse u = true then t.pulse.getD 0 else (t.window.map (fun w => w.close)).getD 0) := by
      split <;> rfl
    have hpending : leOpt 2 (t.pending.map (fun x => x.on)) ++ leOpt 2 (t.pending.map (fun x => x.off))
        ++ leOpt 2 (t.pending.map (fun x => x.latency)) = pendingBytes t.pending := by
      cases t.pending <;> rfl
    have henable : t.pending.any (fun x => x.enable) = (t.pending.map (fun x => x.enable)).getD false := by
      cases t.pending <;> rfl
    simp only [unitItemBytes, snapshotItem, item, unitContent, hkind, hlevel, hactivity, hends, henable,
      ← hpending, List.append_assoc]
    cases t.window <;> rfl
  refine ⟨fun s h => ?_, fun h => ?_, fun i => ?_, fun r => ?_, fun u t => ?_⟩
  · have hb := latchedBytes_unlatch (fitting 248 (latchedBytes s.host)).length s.host
    refine ⟨s.host.unlatch (fitting 248 (latchedBytes s.host)).length, fitting 248 (latchedBytes s.host),
      exec_readSnapshot h, rfl, ?_, ?_, List.drop_suffix _ _, List.drop_suffix _ _,
      fitting_length_le _ _, fun b rest hr => fitting_next _ _ (hb ▸ hr)⟩
    · rw [hb, fitting_append_drop]
    · rw [← latchedBytes_length, hb, List.length_drop, latchedBytes_length]
  · rw [latchedBytes, funext hline, funext hposition, funext hunit]
    cases h.lineItem <;> rfl
  · simp [lineBytes]
  · simp only [pieceBytes]
    cases r.piece.verify <;> simp
  · simp only [unitContent, pendingBytes]
    cases t.pending <;> simp

end Sys2Proof.Machine

/-! PROOF. The frame of a well-formed command decodes to that command (R184, R196, section 10.7): O11. -/

namespace Sys2Proof.Machine

/-! ### Numbers read back -/

theorem ofLe_le {n v : Nat} (h : v < 256 ^ n) : ofLe (le n v) = v := by
  induction n generalizing v with
  | zero => rw [Nat.lt_one_iff.mp h]; rfl
  | succ n ih =>
    have hv : v / 256 < 256 ^ n := Nat.div_lt_of_lt_mul (by rwa [Nat.pow_succ'] at h)
    rw [le, ofLe, ih hv, BitVec.toNat_ofNat]
    exact Nat.mod_add_div v 256

/-- The number written first is read back. -/
theorem numAt_le_append {w v : Nat} (h : v < 256 ^ w) (p : List Byte) : numAt 0 w (le w v ++ p) = v := by
  rw [numAt, List.drop_zero, List.take_left' (length_le w v), ofLe_le h]

theorem numAt_le {w v : Nat} (h : v < 256 ^ w) : numAt 0 w (le w v) = v := by
  simpa using numAt_le_append h []

/-- A field behind a number is read behind its bytes. -/
theorem numAt_skip {m off : Nat} (h : m ≤ off) (w v : Nat) (p : List Byte) :
    numAt off w (le m v ++ p) = numAt (off - m) w p := by
  rw [numAt, List.drop_append, length_le, List.drop_eq_nil_of_le (by rw [length_le]; exact h)]
  rfl

/-- A set of inserts is read back, whatever stands in the two bits above it. -/
theorem insertSet_read (v : InsertSet) (k : Nat) : BitVec.ofNat 6 (v.toNat + 64 * k) = v := by
  apply BitVec.eq_of_toNat_eq
  rw [BitVec.toNat_ofNat]
  have := v.isLt
  omega

theorem insertSet_ofNat (v : InsertSet) : BitVec.ofNat 6 v.toNat = v := insertSet_read v 0

/-! ### Frames -/

/-- A command frame decodes to the command of its code, with its payload. -/
theorem decodeFrame_frameOf {code : Nat} {p b : List Byte} (hc : code < 240) (h : frameOf code p = some b) :
    decodeFrame b = some (decodeCommand code p) := by
  unfold frameOf at h
  split at h
  next hl =>
    obtain rfl := Option.some.inj h
    have hn : (BitVec.ofNat 8 p.length).toNat = p.length := by
      rw [BitVec.toNat_ofNat]
      omega
    have hcode : (BitVec.ofNat 8 code).toNat = code := by
      rw [BitVec.toNat_ofNat]
      omega
    have hread : BitVec.ofNat 8 code ≠ 0xF0#8 := by
      intro k
      have := congrArg BitVec.toNat k
      rw [hcode] at this
      exact absurd this (by simp; omega)
    simp only [le, List.cons_append, List.nil_append, decodeFrame, hread, if_false, hn, hcode]
    rw [if_neg (by omega)]
  next => cases h

theorem decodeFrame_frameFields {α : Type} {code : Nat} {f : α → List Byte} {p : Payload α}
    {b : List Byte} (hc : code < 240) (h : frameFields code f p = some b) :
    ∃ a, p = .fields a ∧ decodeFrame b = some (decodeCommand code (f a)) := by
  cases p with
  | fields a => exact ⟨a, rfl, decodeFrame_frameOf hc h⟩
  | malformed => cases h

theorem fixedPayload_eq {α : Type} {n : Nat} {ok : Bool} {a c : α} {p : List Byte} (hl : p.length = n)
    (ho : ok = true) (ha : a = c) : fixedPayload n ok a p = .fields c := by
  rw [fixedPayload, hl, ho, ha]
  simp

/-! ### Payloads of fixed length -/

theorem decodeNumber_le {w v : Nat} (h : v < 256 ^ w) : decodeNumber w (le w v) = .fields v :=
  fixedPayload_eq (length_le w v) rfl (numAt_le h)

theorem decodeGeometry_payload {g : GeometryFields} (h : g.wf = true) :
    decodeGeometry (geometryPayload g) = .fields g := by
  obtain ⟨c, fitted, offsets, cOff, v, w, x, gauge, d, s⟩ := g
  simp only [GeometryFields.wf, Bool.and_eq_true, beq_iff_eq, fits1, fits2, decide_eq_true_eq,
    List.all_eq_true] at h
  obtain ⟨⟨⟨⟨⟨⟨⟨⟨⟨hc, hl⟩, ho⟩, h1⟩, h2⟩, h3⟩, h4⟩, h5⟩, h6⟩, h7⟩ := h
  obtain ⟨o0, o1, o2, o3, o4, o5, rfl⟩ : ∃ a b c d e f, offsets = [a, b, c, d, e, f] := by
    match offsets, hl with
    | [a, b, c, d, e, f], _ => exact ⟨a, b, c, d, e, f, rfl⟩
  simp only [List.mem_cons, List.not_mem_nil, or_false, forall_eq_or_imp, forall_eq] at ho
  obtain ⟨k0, k1, k2, k3, k4, k5⟩ := ho
  have hf : fitted.toNat < 64 := fitted.isLt
  have hf' : fitted.toNat < 256 := hf.trans (by decide)
  refine fixedPayload_eq ?_ ?_ ?_
  · simp [geometryPayload]
  · simp [geometryPayload, numAt_skip, numAt_le_append, hf', hf]
  · simp [geometryPayload, numAt_skip, numAt_le_append, numAt_le, insertSetAt, List.range_succ, *]

theorem decodeProduct_bytes {p : ProductFields} (h : p.wf = true) :
    decodeProduct (productBytes p) = .fields p := by
  simp only [ProductFields.wf, Bool.and_eq_true, fits1, fits2, decide_eq_true_eq] at h
  refine fixedPayload_eq (by simp [productBytes]) rfl ?_
  simp [productBytes, numAt_skip, numAt_le_append, numAt_le, h]

theorem decodeInsert_bytes {i : InsertFields} (h : i.wf = true) :
    decodeInsert (insertBytes i) = .fields i := by
  simp only [InsertFields.wf, Bool.and_eq_true, fits1, fits2, decide_eq_true_eq] at h
  have hr : numAt 4 1 (insertBytes i) = i.required.toNat := by
    have : i.required.toNat < 256 := by cases i.required <;> decide
    simp [insertBytes, flag, numAt_skip, numAt_le, this]
  refine fixedPayload_eq (by simp [insertBytes, flag]) ?_ ?_
  · rw [hr]
    cases i.required <;> rfl
  · rw [hr]
    have e : (i.required.toNat == 1) = i.required := by cases i.required <;> rfl
    simp [insertBytes, numAt_skip, numAt_le_append, h, e]

theorem decodeBundleLimits_bytes {l : BundleLimitFields} (h : l.wf = true) :
    decodeBundleLimits (limitBytes l.nmax l.mmax) = .fields l := by
  simp only [BundleLimitFields.wf, Bool.and_eq_true, fits2, decide_eq_true_eq] at h
  refine fixedPayload_eq (by simp [limitBytes]) rfl ?_
  simp [limitBytes, numAt_skip, numAt_le_append, numAt_le, h]

theorem decodeRemake_bytes {r : RemakeFields} (h : r.wf = true) :
    decodeRemake (remakeBytes r) = .fields r := by
  simp only [RemakeFields.wf, Bool.and_eq_true, fits1, decide_eq_true_eq] at h
  refine fixedPayload_eq (by simp [remakeBytes]) rfl ?_
  simp [remakeBytes, numAt_skip, numAt_le_append, numAt_le, h]

theorem decodePrinter_bytes {p : PrinterFields} (h : p.wf = true) :
    decodePrinter (printerBytes p) = .fields p := by
  simp only [PrinterFields.wf, Bool.and_eq_true, fits1, decide_eq_true_eq] at h
  refine fixedPayload_eq (by simp [printerBytes]) rfl ?_
  simp [printerBytes, numAt_skip, numAt_le_append, numAt_le, h]

theorem decodeUnit_bytes {u : UnitFields} (h : u.wf = true) : decodeUnit (unitBytes u) = .fields u := by
  simp only [UnitFields.wf, Bool.and_eq_true, fits1, fits2, decide_eq_true_eq] at h
  have he : numAt 1 1 (unitBytes u) = u.enable.toNat := by
    have : u.enable.toNat < 256 := by cases u.enable <;> decide
    simp [unitBytes, flag, numAt_skip, numAt_le_append, this]
  refine fixedPayload_eq (by simp [unitBytes, flag]) ?_ ?_
  · rw [he]
    cases u.enable <;> rfl
  · rw [he]
    have e : (u.enable.toNat == 1) = u.enable := by cases u.enable <;> rfl
    simp [unitBytes, flag, numAt_skip, numAt_le_append, numAt_le, h, e]

theorem decodeHold_bytes {f : HoldFields} (h : f.wf = true) : decodeHold (holdBytes f) = .fields f := by
  simp only [HoldFields.wf, Bool.and_eq_true, fits2, decide_eq_true_eq] at h
  refine fixedPayload_eq (by simp [holdBytes]) rfl ?_
  simp [holdBytes, numAt_skip, numAt_le_append, numAt_le, h]

theorem decodeAttention_byte (b : Byte) : decodeAttention [b] = .fields b := by
  refine fixedPayload_eq rfl rfl ?_
  simp [numAt, ofLe]

theorem decodeJob_bytes {j : JobFields} (h : j.wf = true) : decodeJob (jobBytes j) = .fields j := by
  simp only [JobFields.wf, Bool.and_eq_true, fits1, fits2, decide_eq_true_eq] at h
  refine fixedPayload_eq (by simp [jobBytes]) rfl ?_
  simp [jobBytes, numAt_skip, numAt_le_append, numAt_le, h]

theorem decodeReadBundle_bytes {b : BundleReadFields} (h : b.wf = true) :
    decodeReadBundle (le 2 b.bundle ++ le 1 b.first) = .fields b := by
  simp only [BundleReadFields.wf, Bool.and_eq_true, fits1, fits2, decide_eq_true_eq] at h
  refine fixedPayload_eq (by simp) rfl ?_
  simp [numAt_skip, numAt_le_append, numAt_le, h]

theorem decodeSnapshot_bytes {f : SnapshotFields} (h : f.wf = true) :
    decodeSnapshot (le 1 f.line ++ le 8 f.positions.toNat ++ le 3 f.units.toNat) = .fields f := by
  simp only [SnapshotFields.wf, fits1, decide_eq_true_eq] at h
  have hp := f.positions.isLt
  have hu := f.units.isLt
  refine fixedPayload_eq (by simp) rfl ?_
  simp [numAt_skip, numAt_le_append, numAt_le, h, hp, hu]

/-! ### Text blocks (R196 Text) -/

theorem packSymbols_lt (t : List Symbol) : packSymbols t < 2 ^ (7 * t.length) := by
  induction t with
  | nil => decide
  | cons c cs ih =>
    have hc : c.toNat < 128 := c.isLt
    rw [packSymbols, List.length_cons, Nat.mul_succ, Nat.pow_add]
    omega

theorem unpackSymbols_packSymbols (t : List Symbol) : unpackSymbols t.length (packSymbols t) = t := by
  induction t with
  | nil => rfl
  | cons c cs ih =>
    have hc : c.toNat < 128 := c.isLt
    have hhead : BitVec.ofNat 7 (c.toNat + 128 * packSymbols cs) = c := by
      apply BitVec.eq_of_toNat_eq
      rw [BitVec.toNat_ofNat]
      omega
    have htail : (c.toNat + 128 * packSymbols cs) / 128 = packSymbols cs := by omega
    rw [List.length_cons, packSymbols, unpackSymbols, hhead, htail, ih]

/-- The bytes of a text block hold all its bits. -/
theorem packSymbols_lt_bytes (t : List Symbol) : packSymbols t < 256 ^ packedBytes t.length := by
  refine (packSymbols_lt t).trans_le ?_
  rw [show (256 : Nat) = 2 ^ 8 from rfl, ← Nat.pow_mul]
  refine Nat.pow_le_pow_right (by decide) ?_
  unfold packedBytes ceilDiv
  omega

theorem takeText_textBlock {t : List Symbol} (h : t.length < 256) (rest : List Byte) :
    takeText (textBlock t ++ rest) = some (t, rest) := by
  have hl : (BitVec.ofNat 8 t.length).toNat = t.length := by
    rw [BitVec.toNat_ofNat]
    omega
  have hc : textBlock t ++ rest
      = BitVec.ofNat 8 t.length :: (le (packedBytes t.length) (packSymbols t) ++ rest) := rfl
  rw [hc, takeText, hl, if_neg (by simp), List.take_left' (length_le _ _), List.drop_left' (length_le _ _),
    ofLe_le (packSymbols_lt_bytes t), unpackSymbols_packSymbols]

/-! ### LOAD and AMEND -/

theorem takeRecord_recordBytes {r : LoadRecord} (h : r.wf = true) (rest : List Byte) :
    takeRecord (recordBytes r ++ rest) = some (r, rest) := by
  simp only [LoadRecord.wf, Bool.and_eq_true, fits1, fits2, fits4, decide_eq_true_eq] at h
  obtain ⟨⟨⟨hk, hr⟩, hs⟩, ht⟩ := h
  have hv : r.version.toNat < 64 := r.version.isLt
  have hb : r.version.toNat + 64 * r.endOfRoute.toNat < 256 := by
    cases r.endOfRoute <;> simp <;> omega
  have hbit : (r.version.toNat + 64 * r.endOfRoute.toNat).testBit 6 = r.endOfRoute := by
    rw [Nat.testBit_eq_decide_div_mod_eq]
    cases r.endOfRoute <;> simp <;> omega
  have hdrop : (recordBytes r ++ rest).drop 11 = textBlock r.text ++ rest := by
    simp only [recordBytes, List.append_assoc]
    rfl
  rw [takeRecord, if_neg (by simp [recordBytes]; omega), hdrop, takeText_textBlock ht]
  simp [recordBytes, numAt_skip, numAt_le_append, insertSetAt, insertSet_read, hbit, hk, hr, hs, hb]

theorem takeRecords_flatMap {rs : List LoadRecord} (h : ∀ r ∈ rs, r.wf = true) :
    takeRecords rs.length (rs.flatMap recordBytes) = some rs := by
  induction rs with
  | nil => rfl
  | cons r rs ih =>
    rw [List.forall_mem_cons] at h
    rw [List.length_cons, List.flatMap_cons, takeRecords, takeRecord_recordBytes h.1]
    exact congrArg (Option.map (fun rs => r :: rs)) (ih h.2)

theorem decodeLoad_bytes {rs : List LoadRecord} (hl : rs.length < 256) (h : ∀ r ∈ rs, r.wf = true) :
    decodeLoad (le 1 rs.length ++ rs.flatMap recordBytes) = .fields rs := by
  have hn : (BitVec.ofNat 8 rs.length).toNat = rs.length := by
    rw [BitVec.toNat_ofNat]
    omega
  show (match takeRecords (BitVec.ofNat 8 rs.length).toNat (rs.flatMap recordBytes) with
    | none => .malformed
    | some rs => .fields rs) = Payload.fields rs
  rw [hn, takeRecords_flatMap h]

/-- The bytes of the text that an AMEND carries. -/
def amendTextBytes (t : Option (List Symbol)) : List Byte := (t.map textBlock).getD []

theorem amendPayload_eq (a : AmendFields) : amendPayload a =
    le 4 a.key ++ (le 1 (a.text.isSome.toNat + 2 * a.version.isSome.toNat)
      ++ (le 1 ((a.version.map BitVec.toNat).getD 0) ++ amendTextBytes a.text)) := by
  obtain ⟨key, text, version⟩ := a
  cases text <;> simp only [amendPayload, List.append_assoc] <;> rfl

/-- The text that follows the head of an AMEND is read back (R19). -/
theorem amendText_bytes {t : Option (List Symbol)} (h : t.all (fun t => decide (t.length < 256)) = true) :
    amendText t.isSome (amendTextBytes t) = some t := by
  cases t with
  | none => rfl
  | some t =>
    have e : takeText (amendTextBytes (some t)) = some (t, []) := by
      simpa [amendTextBytes] using takeText_textBlock (of_decide_eq_true h) []
    simp only [amendText, Option.isSome_some, if_true, e]

/-- Two flags in one number. -/
theorem twoFlags_spec (a b : Bool) : a.toNat + 2 * b.toNat < 4
    ∧ (a.toNat + 2 * b.toNat).testBit 0 = a ∧ (a.toNat + 2 * b.toNat).testBit 1 = b := by
  revert a b
  decide

theorem decodeAmend_payload {a : AmendFields} (h : a.wf = true) :
    decodeAmend (amendPayload a) = .fields a := by
  obtain ⟨key, text, version⟩ := a
  simp only [AmendFields.wf, Bool.and_eq_true, fits1, fits4, decide_eq_true_eq] at h
  obtain ⟨hk, ht⟩ := h
  obtain ⟨hfour, h0, h1⟩ := twoFlags_spec text.isSome version.isSome
  have hset : (version.map BitVec.toNat).getD 0 < 64 := by
    cases version with
    | none => decide
    | some v => exact v.isLt
  rw [amendPayload_eq]
  generalize hp : le 4 key ++ _ = p
  have hkey : numAt 0 4 p = key := by rw [← hp, numAt_le_append hk]
  have hflags : numAt 4 1 p = text.isSome.toNat + 2 * version.isSome.toNat := by
    rw [← hp, numAt_skip (by decide), numAt_le_append (hfour.trans (by decide))]
  have hversion : numAt 5 1 p = (version.map BitVec.toNat).getD 0 := by
    rw [← hp, numAt_skip (by decide), numAt_skip (by decide), numAt_le_append (hset.trans (by decide))]
  have hlen : ¬ p.length < 6 := by
    simp only [← hp, List.length_append, length_le]
    omega
  have hdrop : amendText text.isSome (p.drop 6) = some text := by
    rw [← hp]
    exact amendText_bytes ht
  have hv : (if version.isSome = true then some (insertSetAt 5 p) else none) = version := by
    rw [insertSetAt, hversion]
    cases version with
    | none => rfl
    | some v => exact congrArg some (insertSet_ofNat v)
  have hform : ¬ (p.length < 6 || 4 ≤ numAt 4 1 p || 64 ≤ numAt 5 1 p) = true := by
    simp only [hflags, hversion, Bool.or_eq_true, decide_eq_true_eq]
    omega
  rw [decodeAmend, if_neg hform, hflags, h0, hdrop, hkey, h1, hv]

/-! ### The commands -/

section Command
variable {α : Type} {code : Nat} {f : α → List Byte} {p : Payload α} {b : List Byte}
  {mk : Payload α → Instr} {dec : List Byte → Payload α}

/-- A command whose payload is read back is read back. -/
theorem decodeFrame_command {ok : α → Bool} (h : frameFields code f p = some b) (hw : p.all ok = true)
    (hc : code < 240) (hcmd : ∀ q, decodeCommand code q = mk (dec q))
    (hdec : ∀ a, ok a = true → dec (f a) = .fields a) : decodeFrame b = some (mk p) := by
  obtain ⟨a, rfl, e⟩ := decodeFrame_frameFields hc h
  rw [e, hcmd, hdec a hw]

end Command

/-- A command that carries no value is read back. -/
theorem decodeFrame_bare {code : Nat} {p : Payload Unit} {b : List Byte} {mk : Payload Unit → Instr}
    (h : frameFields code (fun _ => []) p = some b) (hc : code < 240)
    (hcmd : ∀ q, decodeCommand code q = mk (emptyPayload q)) : decodeFrame b = some (mk p) := by
  obtain ⟨a, rfl, e⟩ := decodeFrame_frameFields hc h
  rw [e, hcmd]
  rfl

/-- Settles O11. -/
theorem framesDecodeToTheirCommand : Obligations.FramesDecodeToTheirCommand := by
  intro i b hw h
  cases i with
  | responseRead n =>
    obtain rfl := Option.some.inj h
    simp [decodeFrame]
  | status p | identify p | jobConfirm p | run p | pause p | drain p | clearSetup p | clearConfirm p
  | reset p | readExceptions p | readSnapshot p =>
    exact decodeFrame_bare h (by decide) (fun _ => rfl)
  | setGeometry p =>
    exact decodeFrame_command h hw (by decide) (fun _ => rfl) (fun _ => decodeGeometry_payload)
  | setProduct p =>
    exact decodeFrame_command h hw (by decide) (fun _ => rfl) (fun _ => decodeProduct_bytes)
  | setInsert p =>
    exact decodeFrame_command h hw (by decide) (fun _ => rfl) (fun _ => decodeInsert_bytes)
  | setBundleLimits p =>
    exact decodeFrame_command h hw (by decide) (fun _ => rfl) (fun _ => decodeBundleLimits_bytes)
  | setRemake p =>
    exact decodeFrame_command h hw (by decide) (fun _ => rfl) (fun _ => decodeRemake_bytes)
  | setPrinter p =>
    exact decodeFrame_command h hw (by decide) (fun _ => rfl) (fun _ => decodePrinter_bytes)
  | setUnit p => exact decodeFrame_command h hw (by decide) (fun _ => rfl) (fun _ => decodeUnit_bytes)
  | setHold p => exact decodeFrame_command h hw (by decide) (fun _ => rfl) (fun _ => decodeHold_bytes)
  | setAttention p =>
    have hall : p.all (fun _ => true) = true := by cases p <;> rfl
    exact decodeFrame_command h hall (by decide) (fun _ => rfl) (fun a _ => decodeAttention_byte a)
  | jobSetup p => exact decodeFrame_command h hw (by decide) (fun _ => rfl) (fun _ => decodeJob_bytes)
  | load p =>
    refine decodeFrame_command h hw (by decide) (fun _ => rfl) (fun rs hr => ?_)
    obtain ⟨hl, hr⟩ := Bool.and_eq_true_iff.mp hr
    exact decodeLoad_bytes (of_decide_eq_true hl) (List.all_eq_true.mp hr)
  | amend p => exact decodeFrame_command h hw (by decide) (fun _ => rfl) (fun _ => decodeAmend_payload)
  | find p | withdraw p | releaseBundle p | releaseExceptions p =>
    exact decodeFrame_command h hw (by decide) (fun _ => rfl)
      (fun _ ha => decodeNumber_le (of_decide_eq_true ha))
  | readBundle p =>
    exact decodeFrame_command h hw (by decide) (fun _ => rfl) (fun _ => decodeReadBundle_bytes)
  | snapshot p =>
    exact decodeFrame_command h hw (by decide) (fun _ => rfl) (fun _ => decodeSnapshot_bytes)
  | _ => cases h

end Sys2Proof.Machine

/-! PROOF. Faults by line state, the fault inputs and the reverse count, and the messages of the printer:
O39, O40, O45 and O46. -/

namespace Sys2Proof.Machine

/-! ### Events -/

/-- An event's effect under a reset input that is not asserted. -/
theorem next_lineEvent {s : State} (act : State → State) (h : s.inputs.reset = false) :
    (Host.Outcome.next (lineEvent act s) : Host.Outcome State Fault Refusal)
      = Host.Outcome.next (act s) :=
  congrArg Host.Outcome.next (lineEvent_taken act h)

/-! ### A fault by line state (R62, R63) -/

/-- The line unit of a line that a fault takes to FAULTED from STOPPED or HOLDING. -/
def LineUnit.faulted (c : FaultCause) (l : LineUnit) : LineUnit :=
  { l with state := .faulted, pause := false, first := some c }

section Fault
variable {c : FaultCause} {s : State}

theorem takeFault_idle (h : s.line.state = .idle) : takeFault c s = s := by
  simp only [takeFault, h]

theorem takeFault_at_rest (h : s.line.state = .stopped ∨ s.line.state = .holding) :
    takeFault c s = { s with line := s.line.faulted c } := by
  rcases h with h | h <;>
    simp [takeFault, h, enterFault, enterLine, LineUnit.enter, LineState.moving, LineUnit.faulted]

theorem takeFault_moving (h : s.line.state = .running ∨ s.line.state = .draining) :
    takeFault c s =
      { s with
        line := { s.line.faulted c with period := none, sinceMark := none }
        tracking :=
          { s.tracking with
            pieces := s.tracking.pieces.map (fun p =>
              if s.geometry.w ≤ position s p ∧ position s p ≤ s.geometry.x then
                p.withDefect .wrapAbort .wrap else p) } } := by
  rcases h with h | h <;>
    simp [takeFault, h, enterFault, enterLine, LineUnit.enter, LineState.moving, LineUnit.faulted,
      markWrapZone, mapPieces]

theorem takeFault_faulted (h : s.line.state = .faulted) : takeFault c s =
    { s with line := { s.line with further := s.line.further ||| BitVec.twoPow 8 c.index } } := by
  simp only [takeFault, h]

end Fault

/-- What a fault does, by the state of the line (R62, R63), with the bit of its cause given by the order of
the table of section 3.6. -/
def faultByState (c : FaultCause) (s : State) : State :=
  let bit : Nat := [FaultCause.jam, .filmbrk, .guard, .reverse, .overrun, .holdTimeout,
    .carrierSlip, .pocketJam].idxOf c
  let faulted := { s.line with state := .faulted, pause := false, first := some c }
  match s.line.state with
  | .idle => s
  | .stopped | .holding => { s with line := faulted }
  | .running | .draining =>
    { s with
      line := { faulted with period := none, sinceMark := none }
      tracking :=
        { s.tracking with
          pieces := s.tracking.pieces.map (fun p =>
            if s.geometry.w ≤ position s p ∧ position s p ≤ s.geometry.x then
              p.withDefect .wrapAbort .wrap else p) } }
  | .faulted =>
    { s with line := { s.line with further := s.line.further ||| BitVec.twoPow 8 bit } }

theorem takeFault_eq_faultByState (c : FaultCause) (s : State) : takeFault c s = faultByState c s := by
  cases h : s.line.state
  case faulted =>
    rw [takeFault_faulted h, FaultCause.index_eq_idxOf]
    simp only [faultByState, h]
  all_goals simp only [faultByState, h]
  case idle => exact takeFault_idle h
  case stopped => exact takeFault_at_rest (.inl h)
  case holding => exact takeFault_at_rest (.inr h)
  case running => exact takeFault_moving (.inl h)
  case draining => exact takeFault_moving (.inr h)

/-- A fault leaves the counts of the line alone. -/
theorem takeFault_counts (c : FaultCause) (s : State) : (takeFault c s).line.backlash = s.line.backlash
    ∧ (takeFault c s).line.inPitch = s.line.inPitch ∧ (takeFault c s).line.pitch = s.line.pitch :=
  have m := takeFault_motion c s
  ⟨m.backlash, m.inPitch, m.pitch⟩

/-! ### The encoder (R45, R46) -/

theorem exec_reverseCount {elapsed : Nat} {s : State} (h : s.inputs.reset = false) :
    exec (.encoderReverseCount elapsed) s = .next (reverseCount (passTime elapsed s)) :=
  next_lineEvent _ h

theorem exec_forwardCount {i : CountInputs} {s : State} (h : s.inputs.reset = false) :
    exec (.encoderForwardCount i) s = .next (forwardCount i.order
      (passTime i.elapsed { s with inputs := { s.inputs with gauge := i.gauge } })) :=
  next_lineEvent _ h

theorem reverseCount_of_ne {s : State} (h : s.line.backlash ≠ s.geometry.c) : reverseCount s =
    { s with line := { s.line with backlash := raise top16 s.line.backlash } } := if_neg h

theorem reverseCount_of_eq {s : State} (h : s.line.backlash = s.geometry.c) : reverseCount s =
    takeFault .reverse { s with line := { s.line with backlash := raise top16 s.line.backlash } } :=
  if_pos h

theorem forwardCount_of_backlash (order : List MarkEvent) {s : State} (h : 0 < s.line.backlash) :
    forwardCount order s = { s with line := { s.line with backlash := s.line.backlash - 1 } } := if_pos h

/-- STATUS sends the backlash count as its bytes 13 and 14. -/
theorem statusPayload_backlash (s : State) : ∃ before after, before.length = 13
    ∧ statusPayload s = before ++ (le 2 s.line.backlash ++ after) := by
  refine ⟨statusPresence s ++ (statusPart s ++ le 2 s.line.inPitch), ?after, ?length, ?bytes⟩
  case bytes =>
    simp only [statusPayload, statusLine, List.append_assoc]
    exact rfl
  case length =>
    have hl : (latchBytes s.host.latch).length = 4 := by cases s.host.latch <;> simp [latchBytes]
    have ho : (operationByte s.host.operation).length = 1 := by
      rcases s.host.operation with _ | _ | _ <;> simp [operationByte]
    simp [statusPresence, statusPart, flag, hl, ho]

/-- The line item sends the backlash count as its bytes 9 and 10. -/
theorem lineItemBytes_backlash (i : LineItem) : ∃ before after, before.length = 9
    ∧ lineItemBytes i = before ++ (le 2 i.line.backlash ++ after) := by
  refine ⟨le 1 1 ++ (le 1 0 ++ (le 1 19 ++ (le 4 i.line.pitch.toNat ++ le 2 i.line.inPitch))), ?after,
    by simp, ?bytes⟩
  case bytes =>
    simp only [lineItemBytes, snapshotItem, List.append_assoc, List.length_append, length_le, leOpt]
    exact rfl

theorem drop_take_le {before after : List Byte} {k n v : Nat} (h : before.length = k) :
    ((before ++ (le n v ++ after)).drop k).take n = le n v := by
  rw [List.drop_left' h, List.take_left' (length_le n v)]

/-- Settles O39. -/
theorem reverseCountOwesBacklash : Obligations.ReverseCountOwesBacklash := by
  unfold Obligations.ReverseCountOwesBacklash
  intro fault
  have hfault (c : FaultCause) (s : State) : takeFault c s = fault c s := takeFault_eq_faultByState c s
  refine ⟨fun elapsed s h => ?_, hfault, fun i s h => ?_, fun s => ?_, fun i => ?_⟩
  · intro t raised
    refine ⟨fun hne => ?_, fun heq => ?_⟩
    · rw [exec_reverseCount h, reverseCount_of_ne hne]
      rfl
    · rw [exec_reverseCount h, reverseCount_of_eq heq, ← hfault]
      exact ⟨rfl, takeFault_counts .reverse raised⟩
  · intro t hb
    rw [exec_forwardCount h, forwardCount_of_backlash _ hb]
  · obtain ⟨before, after, hl, he⟩ := statusPayload_backlash s
    rw [he, drop_take_le hl]
  · obtain ⟨before, after, hl, he⟩ := lineItemBytes_backlash i
    rw [he, drop_take_le hl]

/-! ### The fault inputs (R61 to R63) -/

theorem exec_faultInputActive {f : FaultInput} {s : State} (h : s.inputs.reset = false)
    (hl : s.inputs.level f = false) :
    exec (.faultInputActive f) s = .next (takeFault (inputCause f) (setFaultInput f true s)) := by
  have hr : (setFaultInput f true s).inputs.reset = false := (setFaultInput_reset f true s).trans h
  refine Eq.trans ?_ (next_lineEvent _ hr)
  exact congrArg Host.Outcome.next (if_neg (by simp [hl]))

theorem setFaultInput_eq (f : FaultInput) (b : Bool) (s : State) :
    setFaultInput f b s = { s with inputs := (setFaultInput f b s).inputs } := by
  cases f <;> rfl

theorem setFaultInput_level (f : FaultInput) (b : Bool) (s : State) :
    (setFaultInput f b s).inputs.level f = b := by
  cases f <;> rfl

/-- Settles O40. -/
theorem faultInputByLineState : Obligations.FaultInputByLineState := by
  intro f s h active inputs faulted
  refine ⟨fun hl => ?_, fun hl => ?_, rfl, setFaultInput_level f true s, setFaultInput_level f false s⟩
  · exact congrArg Host.Outcome.next (if_pos hl)
  · have e : active = .next (takeFault (inputCause f) { s with inputs := inputs }) := by
      rw [← setFaultInput_eq]
      exact exec_faultInputActive h hl
    rw [e]
    refine ⟨fun hs => ?_, fun hs => ?_, fun hs => ?_, fun hs => ?_⟩
    · rw [takeFault_idle (s := { s with inputs := inputs }) hs]
    · rw [takeFault_at_rest (s := { s with inputs := inputs }) hs]
      rfl
    · rw [takeFault_moving (s := { s with inputs := inputs }) hs]
      rfl
    · rw [takeFault_faulted (s := { s with inputs := inputs }) hs]

/-! ### A hold that ends (R59) -/

/-- A HOLDING line with no cause left moves on. -/
theorem settle_of_clear {s : State} (hl : s.line.state = .holding) (hc : s.holds.causes = HoldSet.none) :
    settle s = drainTest
      { s with
        line :=
          { s.line with
            state := if s.line.drain = true then .draining else .running
            pause := false
            period := none
            sinceMark := none } } := by
  have he : enterLine (movingState s) s =
      { s with
        line :=
          { s.line with
            state := if s.line.drain = true then .draining else .running
            pause := false
            period := none
            sinceMark := none } } := by
    cases hd : s.line.drain <;>
      simp [enterLine, movingState, LineUnit.enter, LineState.moving, hl, hd]
  rw [settle, resumeIfClear, if_pos ⟨hl, (HoldSet.isEmpty_iff _).mpr hc⟩, startMoving, drainTest_drainTest,
    he]

theorem settle_of_not_clear {s : State} (h : s.line.state ≠ .holding ∨ s.holds.causes ≠ HoldSet.none) :
    settle s = drainTest s := by
  have e : resumeIfClear s = s := by
    refine if_neg fun ⟨hl, hc⟩ => ?_
    rcases h with h | h
    · exact h hl
    · exact h ((HoldSet.isEmpty_iff _).mp hc)
  rw [settle, e]

theorem drainTest_of_not_drained {s : State} (h : ¬ Drained s) : drainTest s = s :=
  if_neg fun k => h ((drainConditions_iff s).mp k.2)

/-! ### The messages of the printer (R90, R91, R96, R97, R99) -/

/-- PRINTER-WAIT is cleared when no job marked waiting is DUE or SENT any more (R99). -/
theorem updatePrinterWait_causes (s : State) : updatePrinterWait s =
    { s with
      holds :=
        { s.holds with
          causes :=
            if s.tracking.pieces.any (fun p => p.waiting && (p.job = .due || p.job = .sent)) then
              s.holds.causes
            else { s.holds.causes with printerWait := false } } } := by
  have e : s.tracking.pieces.any (fun p => p.waiting && (p.job = .due || p.job = .sent))
      = s.tracking.pieces.any Piece.keepsWaiting := rfl
  rw [updatePrinterWait, e]
  cases s.tracking.pieces.any Piece.keepsWaiting <;> rfl

theorem accept_of_sent {n : BitVec 16} {s : State} {p : Piece} (hn : n ∈ s.carrier.jobs)
    (hp : pieceNumbered s n = some p) (hj : p.job = .sent) :
    accept n s = settle (updatePrinterWait (updatePiece n (fun p => { p with job := .accepted }) s)) :=
  if_pos ⟨hn, by simp [hp, hj]⟩

theorem accept_of_not_sent {n : BitVec 16} {s : State}
    (h : n ∉ s.carrier.jobs ∨ ∃ p, pieceNumbered s n = some p ∧ p.job ≠ .sent) : accept n s = s := by
  refine if_neg fun ⟨hn, hp⟩ => ?_
  rcases h with h | ⟨p, h, hj⟩
  · exact h hn
  · simp [h, hj] at hp

/-- Settles O45. -/
theorem printerAnswersResolveJobs : Obligations.PrinterAnswersResolveJobs := by
  refine ⟨fun n reason s h => ?_, fun s => ⟨settle_of_clear, settle_of_not_clear, fun hd => ?_⟩⟩
  · intro pieces causes left
    have hresolve (j : JobState) (t : State) (ht : t.tracking = s.tracking ∧ t.holds = s.holds) :
        resolveJob n j t = dispatch
          { t with
            tracking := { s.tracking with pieces := pieces j }
            holds := { s.holds with causes := causes j }
            carrier := { t.carrier with jobs := t.carrier.jobs.filter (fun k => k ≠ n) } } := by
      rw [resolveJob, updatePrinterWait_causes]
      simp only [updatePiece, mapPieces, ht.1, ht.2]
      rfl
    refine ⟨fun hn => ⟨?_, ?_, ?_⟩, fun hn => ⟨fun p hp => ⟨fun hj => ?_, fun hj => ?_⟩, ?_, ?_⟩⟩
    · exact (next_lineEvent _ h).trans (congrArg _ (accept_of_not_sent (.inl hn)))
    · exact (next_lineEvent _ h).trans (congrArg _ (if_neg hn))
    · exact (next_lineEvent _ h).trans (congrArg _ (if_neg hn))
    · refine (next_lineEvent _ h).trans (congrArg _ ?_)
      rw [accept_of_sent hn hp hj, updatePrinterWait_causes]
      rfl
    · exact (next_lineEvent _ h).trans (congrArg _ (accept_of_not_sent (.inr ⟨p, hp, hj⟩)))
    · refine (next_lineEvent _ h).trans (congrArg _ ?_)
      rw [printed, if_pos hn, hresolve _ _ ⟨rfl, rfl⟩]
    · refine (next_lineEvent _ h).trans (congrArg _ ?_)
      rw [refuse, if_pos hn]
      exact congrArg settle (hresolve _ { s with carrier := { s.carrier with lastRefusal := _ } } ⟨rfl, rfl⟩)
  · rcases hd with hd | hd
    · exact drainTest_of_not_draining hd
    · exact drainTest_of_not_drained hd

/-- Settles O46. -/
theorem printerStateAndTransmission : Obligations.PrinterStateAndTransmission := by
  intro s h ready discarded
  refine ⟨?_, fun hr => ?_, fun hr => ?_, fun v hv => ?_, next_lineEvent _ h, fun m rest hw => ?_,
    fun hw => ?_⟩
  · refine (next_lineEvent _ h).trans (congrArg _ ?_)
    rw [printerState, setReady, if_neg (by simp)]
  · exact (next_lineEvent _ h).trans (congrArg _ (if_pos ⟨rfl, hr⟩))
  · refine (next_lineEvent _ h).trans (congrArg _ ?_)
    rw [printerState, setReady, if_neg (by simp [hr]), ← hr]
  · obtain ⟨k, rfl⟩ : ∃ k, v = k + 2 := ⟨v - 2, by omega⟩
    exact next_lineEvent _ h
  · refine (next_lineEvent _ h).trans (congrArg _ ?_)
    rw [transmitNext, hw]
    rfl
  · refine (next_lineEvent _ h).trans (congrArg _ ?_)
    rw [transmitNext, hw, List.head?_nil, List.tail_nil, ← hw]

end Sys2Proof.Machine

/-! PROOF. The carrier and verify units: messages and dispatch (R90, R94, R95, R99, R104), the verify
arrival and timeouts (R100, R107, R110) and the reads (R106, R108, R109, R111): O44, O47 and O48. -/

namespace Sys2Proof.Machine

/-! ### Messages (R90) -/

/-- The messages of the carrier unit in their order: the one in transmission first. -/
def Carrier.order (c : Carrier) : List PrinterMessage := c.transmitting.toList ++ c.waiting

section Produce
variable (m : PrinterMessage) (s : State)

theorem produce_order : (produce m s).carrier.order = s.carrier.order ++ [m] := by
  unfold produce Carrier.order
  cases h : s.carrier.transmitting with
  | none => cases s.carrier.waiting <;> rfl
  | some k => simp [h]

theorem produce_isSome : (produce m s).carrier.transmitting.isSome = true := by
  unfold produce
  cases h : s.carrier.transmitting with
  | none => cases s.carrier.waiting <;> rfl
  | some k => simp [h]

theorem produce_transmitting {k : PrinterMessage} (h : s.carrier.transmitting = some k) :
    (produce m s).carrier.transmitting = some k := by
  simp [produce, h]

/-- A message produced changes nothing but the message in transmission and the waiting ones. -/
theorem produce_eq : produce m s =
    { s with
      carrier :=
        { s.carrier with
          transmitting := (produce m s).carrier.transmitting
          waiting := (produce m s).carrier.waiting } } := by
  unfold produce
  cases h : s.carrier.transmitting with
  | none => rfl
  | some k => rfl

end Produce

/-! ### Dispatch (R95) -/

/-- A piece once its job is sent, if it was DUE. -/
def Piece.sent (p : Piece) : Piece := if p.job = .due then { p with job := .sent } else p

/-- The message of a piece's job. -/
def jobMessage (s : State) (p : Piece) : PrinterMessage :=
  .job p.number (((findRecord s p.key).map (fun r => r.text)).getD [])

/-- What a dispatch that has gone through the pieces `passed` and stands before `rest` has made of a
state whose table holds `before` ahead of them. -/
structure Dispatched (before passed rest : List Piece) (s t : State) : Prop where
  jobs : ∀ p ∈ passed, p.job ≠ .none
  list : t.carrier.jobs = s.carrier.jobs ++ (passed.filter (fun p => p.job = .due)).map (fun p => p.number)
  pieces : t.tracking.pieces = before ++ passed.map Piece.sent ++ rest
  unready : s.carrier.ready = false → passed.filter (fun p => p.job = .due) = []
  four : s.carrier.jobs.length ≤ 4 → t.carrier.jobs.length ≤ 4
  next : ∀ p r, rest = p :: r → p.job = .none
    ∨ (p.job = .due ∧ (s.carrier.ready = false ∨ 4 ≤ t.carrier.jobs.length))
  line : t.line = s.line
  store : t.store = s.store
  messages : t.carrier.order
    = s.carrier.order ++ (passed.filter (fun p => p.job = .due)).map (jobMessage s)
  transmitting : ∀ m, s.carrier.transmitting = some m → t.carrier.transmitting = some m
  none_sent : t.carrier.transmitting = none → passed.filter (fun p => p.job = .due) = []

/-- A dispatch that stops at once. -/
theorem Dispatched.stop {before rest : List Piece} {s : State} (hp : s.tracking.pieces = before ++ rest)
    (hn : ∀ p r, rest = p :: r → p.job = .none
      ∨ (p.job = .due ∧ (s.carrier.ready = false ∨ 4 ≤ s.carrier.jobs.length))) :
    Dispatched before [] rest s s where
  jobs := List.forall_mem_nil _
  list := by simp
  pieces := by simp [hp]
  unready := fun _ => rfl
  four := id
  next := hn
  line := rfl
  store := rfl
  messages := by simp
  transmitting := fun _ => id
  none_sent := fun _ => rfl

/-- A piece with a job that is neither NONE nor DUE is passed. -/
theorem Dispatched.pass {before passed rest : List Piece} {p : Piece} {s t : State}
    (h : Dispatched (before ++ [p]) passed rest s t) (hn : p.job ≠ .none) (hd : p.job ≠ .due) :
    Dispatched before (p :: passed) rest s t where
  jobs := List.forall_mem_cons.mpr ⟨hn, h.jobs⟩
  list := by simp [h.list, hd]
  pieces := by simp [h.pieces, Piece.sent, hd]
  unready := fun k => by simpa [hd] using h.unready k
  four := h.four
  next := h.next
  line := h.line
  store := h.store
  messages := by simp [h.messages, hd]
  transmitting := h.transmitting
  none_sent := fun k => by simpa [hd] using h.none_sent k

/-- The table after one job is sent. -/
theorem sendJob_pieces {before rest : List Piece} {p : Piece} {s : State}
    (hp : s.tracking.pieces = before ++ p :: rest)
    (hn : (s.tracking.pieces.map (fun p => p.number)).Nodup) (hd : p.job = .due) :
    (sendJob p s).tracking.pieces = before ++ [p.sent] ++ rest := by
  have hs : (sendJob p s).tracking.pieces
      = s.tracking.pieces.map (fun q => if q.number = p.number then { q with job := .sent } else q) := by
    unfold sendJob
    rw [produce_eq]
    rfl
  rw [hp, List.map_append, List.map_cons, List.nodup_append] at hn
  obtain ⟨-, hrest, hbefore⟩ := hn
  rw [List.nodup_cons] at hrest
  have same (l : List Piece) (hl : ∀ q ∈ l, q.number ≠ p.number) :
      l.map (fun q => if q.number = p.number then { q with job := .sent } else q) = l := by
    conv_rhs => rw [← List.map_id l]
    exact List.map_congr_left fun q hq => if_neg (hl q hq)
  rw [hs, hp, List.map_append, List.map_cons, if_pos rfl, same before, same rest]
  · simp [Piece.sent, hd]
  · exact fun q hq k => hrest.1 (k ▸ List.mem_map_of_mem hq)
  · exact fun q hq => hbefore _ (List.mem_map_of_mem hq) _ List.mem_cons_self

/-- A DUE job is sent. -/
theorem Dispatched.send {before passed rest : List Piece} {p : Piece} {s t : State}
    (h : Dispatched (before ++ [p.sent]) passed rest (sendJob p s) t) (hd : p.job = .due)
    (hr : s.carrier.ready = true) (h4 : s.carrier.jobs.length < 4) :
    Dispatched before (p :: passed) rest s t := by
  have hjobs : (sendJob p s).carrier.jobs = s.carrier.jobs ++ [p.number] := by
    unfold sendJob
    rw [produce_eq]
    rfl
  have hready : (sendJob p s).carrier.ready = true := by
    unfold sendJob
    rw [produce_eq]
    exact hr
  have hline : (sendJob p s).line = s.line := by
    unfold sendJob
    rw [produce_eq]
    rfl
  have hstore : (sendJob p s).store = s.store := by
    unfold sendJob
    rw [produce_eq]
    rfl
  have hmessage : jobMessage (sendJob p s) = jobMessage s := by
    funext q
    simp only [jobMessage, findRecord, hstore]
  have horder : (sendJob p s).carrier.order = s.carrier.order ++ [jobMessage s p] := produce_order _ _
  have hsome : (sendJob p s).carrier.transmitting.isSome = true := produce_isSome _ _
  exact {
    jobs := List.forall_mem_cons.mpr ⟨by simp [hd], h.jobs⟩
    list := by simp [h.list, hjobs, hd]
    pieces := by simp [h.pieces]
    unready := fun k => absurd (hr.symm.trans k) (by decide)
    four := fun _ => h.four (by rw [hjobs, List.length_append]; exact h4)
    next := fun q r k => (h.next q r k).imp_right fun ⟨k1, k2⟩ =>
      ⟨k1, k2.imp_left fun k3 => absurd (hready.symm.trans k3) (by decide)⟩
    line := h.line.trans hline
    store := h.store.trans hstore
    messages := by simp [h.messages, horder, hmessage, hd]
    transmitting := fun m k => h.transmitting m (produce_transmitting _ _ k)
    none_sent := fun k => by
      obtain ⟨m, hm⟩ := Option.isSome_iff_exists.mp hsome
      exact absurd ((h.transmitting m hm).symm.trans k) (by simp) }

theorem dispatchFrom_spec (ps : List Piece) : ∀ (before : List Piece) (s : State),
    s.tracking.pieces = before ++ ps → (s.tracking.pieces.map (fun p => p.number)).Nodup →
    ∃ passed rest, ps = passed ++ rest ∧ Dispatched before passed rest s (dispatchFrom ps s) := by
  induction ps with
  | nil => exact fun before s hp _ => ⟨[], [], rfl, Dispatched.stop hp fun _ _ k => absurd k.symm (List.cons_ne_nil _ _)⟩
  | cons p ps ih =>
    intro before s hp hn
    have pass (h0 : p.job ≠ .none) (hd : p.job ≠ .due)
        (he : dispatchFrom (p :: ps) s = dispatchFrom ps s) : ∃ passed rest,
        p :: ps = passed ++ rest ∧ Dispatched before passed rest s (dispatchFrom (p :: ps) s) := by
      obtain ⟨passed, rest, hps, h⟩ := ih (before ++ [p]) s (by simp [hp]) hn
      exact ⟨p :: passed, rest, by rw [hps, List.cons_append], by rw [he]; exact h.pass h0 hd⟩
    cases hj : p.job
    case none =>
      have he : dispatchFrom (p :: ps) s = s := by simp only [dispatchFrom, hj]
      refine ⟨[], p :: ps, rfl, ?_⟩
      rw [he]
      exact Dispatched.stop hp fun q r k => .inl ((List.cons.inj k).1 ▸ hj)
    case due =>
      by_cases hsend : s.carrier.jobs.length < Config.maxOutstanding ∧ s.carrier.ready = true
      · have he : dispatchFrom (p :: ps) s = dispatchFrom ps (sendJob p s) := by
          simp only [dispatchFrom, hj, if_pos hsend]
        have hpieces := sendJob_pieces hp hn hj
        have hnumbers : (sendJob p s).tracking.pieces.map (fun p => p.number)
            = s.tracking.pieces.map (fun p => p.number) := by
          rw [hpieces, hp]
          simp [Piece.sent, hj]
        obtain ⟨passed, rest, hps, h⟩ := ih _ _ hpieces (hnumbers ▸ hn)
        exact ⟨p :: passed, rest, by rw [hps, List.cons_append],
          by rw [he]; exact h.send hj hsend.2 hsend.1⟩
      · have he : dispatchFrom (p :: ps) s = s := by simp only [dispatchFrom, hj, if_neg hsend]
        refine ⟨[], p :: ps, rfl, ?_⟩
        rw [he]
        refine Dispatched.stop hp fun q r k => .inr ?_
        obtain ⟨rfl, -⟩ := List.cons.inj k
        refine ⟨hj, ?_⟩
        rcases not_and_or.mp hsend with k | k
        · exact .inr (Nat.le_of_not_lt k)
        · exact .inl (Bool.eq_false_iff.mpr k)
    all_goals exact pass (by simp [hj]) (by simp [hj]) (by simp only [dispatchFrom, hj])

/-! ### The printer jobs of a mark (R94, R95, R99, R104) -/

theorem countCheck_partial {c : Carrier} (marked : Bool) (h : c.windowCount + 1 < 16) :
    c.countCheck marked =
      { c with windowCount := c.windowCount + 1, waits := c.waits + marked.toNat } := by
  rw [Carrier.countCheck, if_neg (Nat.not_le.mpr h)]
  cases marked <;> rfl

theorem countCheck_full {c : Carrier} (marked : Bool) (h : 16 ≤ c.windowCount + 1) :
    c.countCheck marked =
      { c with
        windowCount := 0
        waits := 0
        lq := min c.lmax (max c.lmin
          (if c.waitThreshold ≤ c.waits + marked.toNat then c.lq + c.upStep
          else if c.waits + marked.toNat = 0 then c.lq - c.downStep else c.lq)) } := by
  rw [Carrier.countCheck, if_pos h]
  cases marked <;> rfl

/-- The pieces of a mark with the jobs that become DUE. -/
def withDueJobs (s : State) : State :=
  mapPieces (fun p => if p.becomesDue s.geometry.cOff (position s p) then { p with job := .due } else p) s

/-- The state of a mark once its DUE jobs are known and a dispatch has been attempted. -/
def jobsDue (s : State) : State :=
  if s.tracking.pieces.any (fun p => p.becomesDue s.geometry.cOff (position s p)) then
    dispatch (withDueJobs s)
  else s

theorem withDueJobs_of_none {s : State}
    (h : ¬ s.tracking.pieces.any (fun p => p.becomesDue s.geometry.cOff (position s p)) = true) :
    withDueJobs s = s := by
  have hmap : s.tracking.pieces.map (fun p =>
      if p.becomesDue s.geometry.cOff (position s p) then { p with job := .due } else p)
      = s.tracking.pieces := by
    conv_rhs => rw [← List.map_id s.tracking.pieces]
    exact List.map_congr_left fun p hp => if_neg fun k => h (List.any_eq_true.mpr ⟨p, hp, k⟩)
  rw [withDueJobs, mapPieces, hmap]

theorem printerJobsAtMark_eq (s : State) : printerJobsAtMark s =
    match pieceAt (jobsDue s) (s.geometry.cOff - 1) with
    | none => jobsDue s
    | some p => waitCheck p (jobsDue s) := by
  by_cases h : s.tracking.pieces.any (fun p => p.becomesDue s.geometry.cOff (position s p)) = true
  · have e : jobsDue s = dispatch (withDueJobs s) := if_pos h
    rw [e]
    simp only [printerJobsAtMark, h]
    rfl
  · have e : jobsDue s = s := if_neg h
    rw [e]
    simp only [printerJobsAtMark, h]
    rw [show mapPieces _ s = s from withDueJobs_of_none h]
    rfl

section WaitCheck
variable {p : Piece} (s : State)

theorem waitCheck_of_outstanding (h : p.job = .due ∨ p.job = .sent) : waitCheck p s =
    { s with
      tracking :=
        { s.tracking with
          pieces := s.tracking.pieces.map (fun q =>
            if q.number = p.number then { q with waiting := true } else q) }
      holds :=
        { causes := { s.holds.causes with printerWait := true }
          raised := { s.holds.raised with printerWait := true } }
      carrier := s.carrier.countCheck true } := by
  rcases h with h | h <;> simp only [waitCheck, h] <;> rfl

theorem waitCheck_of_taken (h : p.job = .accepted ∨ p.job = .printed) :
    waitCheck p s = { s with carrier := s.carrier.countCheck false } := by
  rcases h with h | h <;> simp only [waitCheck, h]

theorem waitCheck_of_ended (h : p.job = .none ∨ p.job = .refused ∨ p.job = .cancelled) :
    waitCheck p s = s := by
  rcases h with h | h | h <;> simp only [waitCheck, h]

end WaitCheck

theorem becomesDue_iff (cOff at_ : Nat) (p : Piece) :
    p.becomesDue cOff at_ = true ↔ p.job = .none ∧ at_ + p.lead = cOff := by
  simp [Piece.becomesDue]

theorem isJobOf_eq (n : BitVec 16) : PrinterMessage.isJobOf n = fun m => match m with
    | .job k _ => k == n
    | .cancel _ | .cancelAll => false := by
  funext m
  cases m <;> rfl

theorem produceCancelAll_order (s : State) :
    (produceCancelAll s).carrier.order = s.carrier.transmitting.toList ++ [.cancelAll] := by
  rw [produceCancelAll, produce_order, Carrier.order, List.append_nil]

/-- Settles O47. -/
theorem dispatchSendsDueJobsInBirthOrder : Obligations.DispatchSendsDueJobsInBirthOrder := by
  refine ⟨fun s hn => ?dispatch, fun m n s => ?messages, fun s => ?mark,
    fun marked c => ⟨countCheck_partial marked, countCheck_full marked⟩⟩
  case dispatch =>
    obtain ⟨passed, rest, hp, h⟩ := dispatchFrom_spec s.tracking.pieces [] s rfl hn
    exact ⟨_, passed, rest, hp, rfl, h.jobs, h.list, h.pieces, h.unready, h.four, h.next, h.line, h.store,
      h.messages, h.transmitting, h.none_sent⟩
  case messages =>
    intro order jobOf
    have hj : PrinterMessage.isJobOf n = jobOf := isJobOf_eq n
    refine ⟨produce_order m s, produce_isSome m s, fun k => produce_transmitting m s, produce_eq m s,
      fun h => ?_, fun h => ?_, produceCancelAll_order s⟩
    · rw [produceCancel, hj, if_pos h]
    · rw [produceCancel, hj, if_neg (by simp [h])]
  case mark =>
    intro sent
    have hmap : (fun p : Piece =>
          if p.becomesDue s.geometry.cOff (position s p) = true then { p with job := .due } else p)
        = fun p => if p.job = .none ∧ position s p + p.lead = s.geometry.cOff then { p with job := .due }
          else p :=
      funext fun p => if_congr (becomesDue_iff _ _ p) rfl rfl
    have hsent : jobsDue s = sent := by
      rw [jobsDue, withDueJobs, hmap]
      rfl
    rw [printerJobsAtMark_eq, hsent]
    refine ⟨fun hp => by rw [hp], fun p hp => ⟨fun hj => ?_, fun hj => ?_, fun hj => ?_⟩⟩ <;> rw [hp]
    · exact waitCheck_of_outstanding sent hj
    · exact waitCheck_of_taken sent hj
    · exact waitCheck_of_ended sent hj

/-! ### What the carrier unit leaves alone -/

theorem produce_carrier (m : PrinterMessage) (s : State) :
    produce m s = { s with carrier := (produce m s).carrier } := by
  unfold produce
  cases s.carrier.transmitting <;> rfl

theorem produceCancel_carrier (n : BitVec 16) (s : State) :
    produceCancel n s = { s with carrier := (produceCancel n s).carrier } := by
  unfold produceCancel
  split
  · rfl
  · exact produce_carrier _ s

theorem produceCancel_jobs (n : BitVec 16) (s : State) :
    (produceCancel n s).carrier.jobs = s.carrier.jobs := by
  unfold produceCancel
  split
  · rfl
  · rw [produce_eq]

/-- A dispatch changes the carrier unit and the pieces. -/
theorem dispatchFrom_eq (ps : List Piece) : ∀ s, dispatchFrom ps s =
    { s with
      tracking := { s.tracking with pieces := (dispatchFrom ps s).tracking.pieces }
      carrier := (dispatchFrom ps s).carrier } := by
  induction ps with
  | nil => exact fun s => rfl
  | cons p ps ih =>
    intro s
    have hs : dispatchFrom (p :: ps) s = s ∨ dispatchFrom (p :: ps) s = dispatchFrom ps s
        ∨ dispatchFrom (p :: ps) s = dispatchFrom ps (sendJob p s) := by
      cases h : p.job <;> simp only [dispatchFrom, h]
      case due =>
        split
        · exact .inr (.inr rfl)
        · exact .inl rfl
      case none => exact .inl trivial
      all_goals exact .inr (.inl trivial)
    rcases hs with e | e | e
    · rw [e]
    · rw [e]
      exact ih s
    · rw [e]
      have hsend : sendJob p s =
          { s with
            tracking := { s.tracking with pieces := (sendJob p s).tracking.pieces }
            carrier := (sendJob p s).carrier } := by
        unfold sendJob
        rw [produce_carrier]
        rfl
      refine (ih (sendJob p s)).trans ?_
      generalize dispatchFrom ps (sendJob p s) = t
      rw [hsend]

theorem dispatch_eq (s : State) : dispatch s =
    { s with
      tracking := { s.tracking with pieces := (dispatch s).tracking.pieces }
      carrier := (dispatch s).carrier } := dispatchFrom_eq _ s

/-- The cancel of an outstanding job: its CANCEL, out of the list, and a dispatch (R100, R101). -/
theorem resolveJob_produceCancel (n : BitVec 16) (j : JobState) (s : State) :
    resolveJob n j (produceCancel n s) = dispatch (updatePrinterWait
      (updatePiece n (fun q => { q with job := j })
        { produceCancel n s with
          carrier :=
            { (produceCancel n s).carrier with
              jobs := s.carrier.jobs.filter (fun k => k ≠ n) } })) := by
  rw [← produceCancel_jobs n s]
  rfl

theorem resolveJob_verify (n : BitVec 16) (j : JobState) (s : State) :
    (resolveJob n j s).verify = s.verify := by
  rw [resolveJob, dispatch_eq, updatePrinterWait_eq]
  rfl

theorem cancelJob_verify (p : Piece) (s : State) : (cancelJob p s).verify = s.verify := by
  cases h : p.job <;> simp only [cancelJob, h]
  case none => rw [updatePrinterWait_eq]; rfl
  case due => rw [updatePrinterWait_eq]; rfl
  case sent => rw [resolveJob_verify, produceCancel_carrier]
  case accepted => rw [resolveJob_verify, produceCancel_carrier]

/-! ### Verify timeouts (R110) -/

/-- A piece whose entry has timed out. -/
def Piece.timedOut (p : Piece) : Piece :=
  { p with verify := some (VerifyResult.mk none 0 .timeout) }.withDefect .noRead .verify

@[simp] theorem Piece.timedOut_number (p : Piece) : p.timedOut.number = p.number := by
  rw [Piece.timedOut, Piece.withDefect_number]

theorem timeOutEntry_eq (n : BitVec 16) (s : State) : timeOutEntry n s =
    { s with
      verify :=
        { s.verify with expected := s.verify.expected.filter (fun e => e ≠ n), previous := some n }
      tracking :=
        { s.tracking with
          pieces := s.tracking.pieces.map (fun p => if p.number = n then p.timedOut else p) } } := by
  have e := updatePiece_updatePiece n (Piece.withDefect .noRead .verify)
    (fun p => { p with verify := some { key := none, corrected := 0, grade := .timeout } })
    (fun _ => rfl) (dropExpected n s)
  exact e

theorem timeOutEntries_eq (ns : List (BitVec 16)) : ∀ s : State, ns.Nodup →
    ns.foldl (fun s n => timeOutEntry n s) s =
      { s with
        verify :=
          { s.verify with
            expected := s.verify.expected.filter (fun n => n ∉ ns)
            previous := ns.getLast?.or s.verify.previous }
        tracking :=
          { s.tracking with
            pieces := s.tracking.pieces.map (fun p => if p.number ∈ ns then p.timedOut else p) } } := by
  induction ns with
  | nil => intro s _; simp
  | cons n ns ih =>
    intro s hn
    obtain ⟨hnot, hn⟩ := List.nodup_cons.mp hn
    have hpieces (p : Piece) :
        (if (if p.number = n then p.timedOut else p).number ∈ ns then
          (if p.number = n then p.timedOut else p).timedOut else if p.number = n then p.timedOut else p)
        = if p.number ∈ n :: ns then p.timedOut else p := by
      by_cases h : p.number = n
      · simp [h, hnot]
      · simp [h]
    have hlast : ns.getLast?.or (some n) = (n :: ns).getLast?.or s.verify.previous := by
      rw [List.getLast?_cons]
      cases ns.getLast? <;> rfl
    rw [List.foldl_cons, ih _ hn, timeOutEntry_eq]
    simp only [List.map_map, List.filter_filter, Function.comp_def, hpieces, hlast]
    simp [Bool.and_comm]

theorem mem_entriesDue (s : State) (n : BitVec 16) : n ∈ entriesDue s ↔ n ∈ s.verify.expected
    ∧ ∃ p, pieceNumbered s n = some p ∧ s.geometry.v + 3 ≤ position s p := by
  rw [entriesDue, List.mem_filter]
  refine and_congr_right fun _ => ?_
  cases pieceNumbered s n <;> simp

/-! ### The verify arrival (R100, R107) -/

section Arrival
variable {p : Piece} {s : State}

theorem verifyArrival_of_none (h : pieceAt s s.geometry.v = none) : verifyArrival s = s := by
  rw [verifyArrival, h]

theorem verifyArrival_of_printed (h : pieceAt s s.geometry.v = some p) (hj : p.job = .printed) :
    verifyArrival s = { passStep p.number .carried s with
      verify := { s.verify with expected := s.verify.expected ++ [p.number] } } := by
  simp only [verifyArrival, h, hj, if_true]
  rfl

theorem verifyArrival_of_not_printed (h : pieceAt s s.geometry.v = some p) (hj : p.job ≠ .printed) :
    verifyArrival s = { recordDefect p.number .noPrint .carrier (cancelJob p s) with
      verify := { s.verify with expected := s.verify.expected ++ [p.number] } } := by
  simp only [verifyArrival, h, hj, if_false, recordDefect_verify, cancelJob_verify]

end Arrival

/-- Settles O44. -/
theorem verifyTimeoutMarksPieces : Obligations.VerifyTimeoutMarksPieces := by
  refine ⟨fun s h hn => ⟨mem_entriesDue s, ?_⟩, fun s => ⟨verifyArrival_of_none, fun p hp => ?_⟩⟩
  · refine (next_lineEvent _ h).trans (congrArg _ ?_)
    exact timeOutEntries_eq _ s (hn.filter _)
  · intro change joined cancelled noPrint waits told
    refine ⟨fun hj => verifyArrival_of_printed hp hj, fun hj => ?_, fun hj => ?_, fun hj => ?_⟩
    · rw [verifyArrival_of_not_printed hp (by rcases hj with hj | hj <;> simp [hj])]
      have e : cancelJob p s = s := by rcases hj with hj | hj <;> simp only [cancelJob, hj]
      rw [e]
      rfl
    · rw [verifyArrival_of_not_printed hp (by rcases hj with hj | hj <;> simp [hj])]
      have e : cancelJob p s = updatePrinterWait (updatePiece p.number cancelled s) := by
        rcases hj with hj | hj <;> simp only [cancelJob, hj] <;> rfl
      rw [e, updatePrinterWait_eq]
      rfl
    · rw [verifyArrival_of_not_printed hp (by rcases hj with hj | hj <;> simp [hj])]
      have e : cancelJob p s = resolveJob p.number .cancelled told := by
        rcases hj with hj | hj <;> simp only [cancelJob, hj] <;> rfl
      rw [e, resolveJob_produceCancel, updatePrinterWait_eq]
      rfl

end Sys2Proof.Machine

/-! PROOF. Reads of the verify reader (R106, R108, R109, R111): O48. -/

namespace Sys2Proof.Machine

/-! ### Reads that are not judged (R106) -/

theorem readOutOfForm_iff (key : Option Nat) (corrected : Nat) :
    readOutOfForm key corrected = true ↔ ¬ (key ≠ some 0 ∧ corrected ≤ 15) := by
  cases key with
  | none => simp [readOutOfForm]
  | some k => simp [readOutOfForm, imp_iff_not_or]

section TakeRead
variable {key : Option Nat} {corrected : Nat} {s : State}

theorem takeRead_out_of_form (h : ¬ (key ≠ some 0 ∧ corrected ≤ 15)) :
    takeRead key corrected s = discardRead s := if_pos ((readOutOfForm_iff _ _).mpr h)

variable (h : key ≠ some 0 ∧ corrected ≤ 15)
include h

theorem takeRead_in_form : takeRead key corrected s =
    match s.verify.expected.head? with
    | none => strayRead s
    | some n =>
      match pieceNumbered s n with
      | none => s
      | some p => judgeRead p key corrected s :=
  if_neg fun k => (readOutOfForm_iff _ _).mp k h

theorem takeRead_stray (he : s.verify.expected = []) : takeRead key corrected s = strayRead s := by
  rw [takeRead_in_form h, he]
  rfl

theorem takeRead_missing {n : BitVec 16} {rest : List (BitVec 16)} (he : s.verify.expected = n :: rest)
    (hp : pieceNumbered s n = none) : takeRead key corrected s = s := by
  simp only [takeRead_in_form h, he, List.head?_cons, hp]

theorem takeRead_judged {n : BitVec 16} {rest : List (BitVec 16)} {p : Piece}
    (he : s.verify.expected = n :: rest) (hp : pieceNumbered s n = some p) :
    takeRead key corrected s = judgeRead p key corrected s := by
  simp only [takeRead_in_form h, he, List.head?_cons, hp]

end TakeRead

/-! ### The grade (R108) -/

section Grade
variable {s : State} {p : Piece} {key : Option Nat} {corrected : Nat}

theorem gradeOf_own (h : key = some p.key) : gradeOf s p key corrected
    = if corrected ≤ s.carrier.marginThreshold then .good else .marginal := by
  simp [gradeOf, h]

theorem gradeOf_none : gradeOf s p none corrected = .noRead := rfl

theorem gradeOf_other {k : Nat} (h : k ≠ p.key) : gradeOf s p (some k) corrected
    = if (slipPiece s k).isSome then .slip else .mismatch := by
  simp [gradeOf, h]

theorem gradeOf_slip_iff : gradeOf s p key corrected = .slip
    ↔ key ≠ some p.key ∧ ∃ k q, key = some k ∧ slipPiece s k = some q := by
  cases key with
  | none => simp [gradeOf]
  | some k =>
    by_cases hk : k = p.key
    · rw [gradeOf_own (by rw [hk])]
      split <;> simp [hk]
    · rw [gradeOf_other hk]
      cases h : slipPiece s k <;> simp [hk, h]

/-- A read is never graded TIMEOUT. -/
theorem gradeOf_ne_timeout : gradeOf s p key corrected ≠ .timeout := by
  unfold gradeOf
  split
  · decide
  · split_ifs <;> decide

end Grade

/-- The piece that a slip names holds the key, and it is the second entry's or the previous piece. -/
theorem slipPiece_spec {s : State} {k : Nat} {o : Piece} (h : slipPiece s k = some o) :
    ((∃ n m rest, s.verify.expected = n :: m :: rest ∧ pieceNumbered s m = some o ∧ o.key = k)
      ∨ ∃ m, s.verify.previous = some m ∧ pieceNumbered s m = some o ∧ o.key = k) := by
  simp only [slipPiece] at h
  split at h
  next q hq =>
    obtain rfl := Option.some.inj h
    obtain ⟨hq, hk⟩ := Option.filter_eq_some_iff.mp hq
    obtain ⟨m, hm, hq⟩ := Option.bind_eq_some_iff.mp hq
    refine .inl ?_
    match he : s.verify.expected, hm with
    | n :: m' :: rest, hm =>
      obtain rfl : m' = m := by simpa using hm
      exact ⟨n, m', rest, rfl, hq, by simpa using hk⟩
  next =>
    obtain ⟨hq, hk⟩ := Option.filter_eq_some_iff.mp h
    obtain ⟨m, hm, hq⟩ := Option.bind_eq_some_iff.mp hq
    exact .inr ⟨m, hm, hq, by simpa using hk⟩

theorem slipPiece_none {s : State} {k : Nat} (h : slipPiece s k = none) (o : Piece) :
    ¬ ((∃ n m rest, s.verify.expected = n :: m :: rest ∧ pieceNumbered s m = some o ∧ o.key = k)
      ∨ ∃ m, s.verify.previous = some m ∧ pieceNumbered s m = some o ∧ o.key = k) := by
  simp only [slipPiece] at h
  split at h
  · cases h
  next hn =>
    rintro (⟨n, m, rest, he, hm, rfl⟩ | ⟨m, hp, hm, rfl⟩)
    · simp [he, hm] at hn
    · simp [hp, hm] at h

/-- The piece that a slip names is not the oldest one, whose key the read does not carry. -/
theorem slipPiece_number_ne {s : State} {p o : Piece} {k : Nat} {n : BitVec 16}
    (hp : pieceNumbered s n = some p) (hk : p.key ≠ k) (ho : slipPiece s k = some o) : o.number ≠ n := by
  rintro rfl
  have same (m : BitVec 16) (hm : pieceNumbered s m = some o) : o = p := by
    rw [← pieceNumbered_number hm, hp] at hm
    exact (Option.some.inj hm).symm
  rcases slipPiece_spec ho with ⟨_, m, _, _, hm, e⟩ | ⟨m, _, hm, e⟩
  · exact hk (same m hm ▸ e)
  · exact hk (same m hm ▸ e)

/-! ### The effect of a grade (R108, R109, R111) -/

theorem takeFault_verify (c : FaultCause) (s : State) : (takeFault c s).verify = s.verify := by
  unfold takeFault
  cases s.line.state <;> rfl

theorem gradeEffect_verify (g : Grade) (n : BitVec 16) (other : Option Piece) (s : State) :
    (gradeEffect g n other s).verify = s.verify := by
  cases g
  case slip =>
    simp only [gradeEffect, takeFault_verify]
    cases other <;> rfl
  all_goals rfl

/-- The verify unit after a judged read: its entry is gone, it is the previous piece, and the window has
counted it. -/
theorem judgeRead_verify (p : Piece) (key : Option Nat) (corrected : Nat) (s : State) :
    (judgeRead p key corrected s).verify = Verify.countRead
      (decide (gradeOf s p key corrected = .marginal))
      { s.verify with
        expected := s.verify.expected.filter (fun e => e ≠ p.number)
        previous := some p.number } := gradeEffect_verify _ _ _ _

theorem countRead_entries (m : Bool) (v : Verify) :
    (v.countRead m).expected = v.expected ∧ (v.countRead m).previous = v.previous := by
  unfold Verify.countRead
  dsimp only
  split <;> exact ⟨rfl, rfl⟩

theorem countRead_partial {v : Verify} (m : Bool) (h : v.reads < 31) : v.countRead m =
    { v with
      reads := v.reads + 1
      marginals := v.marginals + m.toNat
      printQuality := v.printQuality || decide (8 ≤ v.marginals + m.toNat) } := by
  rw [Verify.countRead, if_neg (by omega)]
  cases m <;> rfl

theorem countRead_full {v : Verify} (m : Bool) (h : v.reads = 31) : v.countRead m =
    { v with
      reads := 0, marginals := 0, printQuality := decide (8 ≤ v.marginals + m.toNat) } := by
  rw [Verify.countRead, if_pos (by omega)]
  cases m <;> rfl

/-- What a grade that is no slip makes of the oldest piece. -/
def Piece.graded (key : Option Nat) (corrected : Nat) (g : Grade) (a : Piece) : Piece :=
  let b := { a with verify := some { key := key, corrected := corrected, grade := g } }
  if g = .noRead then b.withDefect .noRead .verify
  else if g = .mismatch then b.withDefect .keyMismatch .verify
  else b.passed .verified

theorem Piece.graded_number (key : Option Nat) (corrected : Nat) (g : Grade) (a : Piece) :
    (a.graded key corrected g).number = a.number := by
  unfold Piece.graded
  dsimp only
  split_ifs <;> simp

/-- One piece of a table changed twice. -/
theorem map_number_map_number (l : List Piece) (n : BitVec 16) {f g : Piece → Piece}
    (h : ∀ a, (f a).number = a.number) :
    (l.map (fun a => if a.number = n then f a else a)).map (fun a => if a.number = n then g a else a)
      = l.map (fun a => if a.number = n then g (f a) else a) := by
  rw [List.map_map]
  refine List.map_congr_left fun a _ => ?_
  by_cases ha : a.number = n <;> simp [ha, h]

section Judge
variable {p : Piece} {key : Option Nat} {corrected : Nat} {s : State} {g : Grade}
  (hg : gradeOf s p key corrected = g)
include hg

theorem judgeRead_of_not_slip (hs : g ≠ .slip) : (judgeRead p key corrected s).line = s.line
    ∧ (judgeRead p key corrected s).tracking =
      { s.tracking with
        pieces := s.tracking.pieces.map (fun a =>
          if a.number = p.number then a.graded key corrected g else a) } := by
  have hm (f : Piece → Piece) := map_number_map_number s.tracking.pieces p.number (g := f)
    (f := fun q => { q with verify := some { key := key, corrected := corrected, grade := g } })
    (fun _ => rfl)
  have ht : g ≠ .timeout := hg ▸ gradeOf_ne_timeout
  simp only [judgeRead, hg]
  cases g
  case slip => exact absurd rfl hs
  case timeout => exact absurd rfl ht
  case good => exact ⟨rfl, congrArg (fun l => { s.tracking with pieces := l }) (hm (Piece.passed .verified))⟩
  case marginal =>
    exact ⟨rfl, congrArg (fun l => { s.tracking with pieces := l }) (hm (Piece.passed .verified))⟩
  case noRead =>
    exact ⟨rfl, congrArg (fun l => { s.tracking with pieces := l }) (hm (Piece.withDefect .noRead .verify))⟩
  case mismatch =>
    exact ⟨rfl, congrArg (fun l => { s.tracking with pieces := l })
      (hm (Piece.withDefect .keyMismatch .verify))⟩

/-- A slip records KEY-MISMATCH for the oldest piece and for the piece whose key was read, and raises
CARRIER-SLIP. -/
theorem judgeRead_slip (hs : g = .slip) {o : Piece} (ho : key.bind (slipPiece s) = some o)
    (hn : o.number ≠ p.number) : ∃ u : State, judgeRead p key corrected s = takeFault .carrierSlip u
      ∧ u.line = s.line ∧ u.geometry = s.geometry ∧ u.tracking =
      { s.tracking with
        pieces := s.tracking.pieces.map (fun a =>
          if a.number = p.number then
            { a with verify := some (VerifyResult.mk key corrected .slip) }.withDefect .keyMismatch .verify
          else if a.number = o.number then a.withDefect .keyMismatch .verify
          else a) } := by
  subst hs
  simp only [judgeRead, hg, ho, gradeEffect]
  refine ⟨_, rfl, rfl, rfl, congrArg (fun l => { s.tracking with pieces := l }) ?_⟩
  have hm := map_number_map_number s.tracking.pieces p.number (g := Piece.withDefect .keyMismatch .verify)
    (f := fun q => { q with verify := some (VerifyResult.mk key corrected .slip) }) (fun _ => rfl)
  refine (congrArg (List.map (fun a => if a.number = o.number then
    a.withDefect .keyMismatch .verify else a)) hm).trans ?_
  rw [List.map_map]
  refine List.map_congr_left fun a _ => ?_
  by_cases ha : a.number = p.number
  · have hao : a.number ≠ o.number := fun k => hn (k.symm.trans ha)
    simp only [Function.comp_apply, if_pos ha, Piece.withDefect_number, if_neg hao]
  · simp only [Function.comp_apply, if_neg ha]

end Judge

/-- A fault leaves the number of every piece, and marks the wrap zone of a moving line. -/
theorem takeFault_pieces (c : FaultCause) (s : State) : (takeFault c s).tracking =
    { s.tracking with
      pieces := s.tracking.pieces.map (fun a =>
        if s.line.state.moving = true ∧ s.geometry.w ≤ position s a ∧ position s a ≤ s.geometry.x then
          a.withDefect .wrapAbort .wrap else a) } := by
  have still (h : s.line.state.moving = false) : s.tracking =
      { s.tracking with
        pieces := s.tracking.pieces.map (fun a =>
          if s.line.state.moving = true ∧ s.geometry.w ≤ position s a ∧ position s a ≤ s.geometry.x then
            a.withDefect .wrapAbort .wrap else a) } := by
    have e : s.tracking.pieces.map (fun a =>
        if s.line.state.moving = true ∧ s.geometry.w ≤ position s a ∧ position s a ≤ s.geometry.x then
          a.withDefect .wrapAbort .wrap else a) = s.tracking.pieces := by
      simp [h]
    rw [e]
  have marked (h : s.line.state.moving = true) : (markWrapZone s).tracking =
      { s.tracking with
        pieces := s.tracking.pieces.map (fun a =>
          if s.line.state.moving = true ∧ s.geometry.w ≤ position s a ∧ position s a ≤ s.geometry.x then
            a.withDefect .wrapAbort .wrap else a) } := by
    simp only [h, true_and]
    rfl
  cases h : s.line.state
  case idle => rw [takeFault_idle h]; exact h ▸ still (by rw [h]; rfl)
  case stopped => rw [takeFault_at_rest (.inl h)]; exact h ▸ still (by rw [h]; rfl)
  case holding => rw [takeFault_at_rest (.inr h)]; exact h ▸ still (by rw [h]; rfl)
  case faulted => rw [takeFault_faulted h]; exact h ▸ still (by rw [h]; rfl)
  case running => rw [takeFault_moving (.inl h)]; exact h ▸ marked (by rw [h]; rfl)
  case draining => rw [takeFault_moving (.inr h)]; exact h ▸ marked (by rw [h]; rfl)

@[simp] theorem Piece.withDefect_verify (cause : DefectCause) (station : DefectStation) (p : Piece) :
    (p.withDefect cause station).verify = p.verify := by rw [Piece.withDefect_eq]

@[simp] theorem Piece.withDefect_birthPitch (cause : DefectCause) (station : DefectStation) (p : Piece) :
    (p.withDefect cause station).birthPitch = p.birthPitch := by rw [Piece.withDefect_eq]

/-- What a slip makes of a piece: KEY-MISMATCH for the oldest piece, whose result is written, and for the
piece whose key was read, and WRAP-ABORT in the wrap zone of a moving line. -/
def Piece.slipped (s : State) (key : Option Nat) (corrected : Nat) (n m : BitVec 16) (a : Piece) : Piece :=
  let b : Piece :=
    if a.number = n then
      { a with verify := some (VerifyResult.mk key corrected .slip) }.withDefect .keyMismatch .verify
    else if a.number = m then a.withDefect .keyMismatch .verify
    else a
  if s.line.state.moving = true ∧ s.geometry.w ≤ position s a ∧ position s a ≤ s.geometry.x then
    b.withDefect .wrapAbort .wrap
  else b

theorem Piece.slipped_number (s : State) (key : Option Nat) (corrected : Nat) (n m : BitVec 16)
    (a : Piece) : (a.slipped s key corrected n m).number = a.number := by
  unfold Piece.slipped
  split_ifs <;> simp

theorem Piece.slipped_verify {s : State} {key : Option Nat} {corrected : Nat} {n m : BitVec 16}
    {a : Piece} (h : a.number = n) : (a.slipped s key corrected n m).verify
      = some { key := key, corrected := corrected, grade := .slip } := by
  simp only [Piece.slipped, if_pos h]
  split <;> simp

theorem judgeRead_slip_tracking {p o : Piece} {key : Option Nat} {corrected : Nat} {s : State}
    (hg : gradeOf s p key corrected = .slip) (ho : key.bind (slipPiece s) = some o)
    (hn : o.number ≠ p.number) : (judgeRead p key corrected s).tracking =
      { s.tracking with
        pieces := s.tracking.pieces.map (Piece.slipped s key corrected p.number o.number) } := by
  obtain ⟨u, hu, hline, hgeometry, htracking⟩ := judgeRead_slip hg rfl ho hn
  have hposition (a : Piece) : position u a = position s a := by rw [position, position, hline]
  rw [hu, takeFault_pieces, htracking]
  refine congrArg (fun l => { s.tracking with pieces := l }) ?_
  rw [List.map_map]
  refine List.map_congr_left fun a _ => ?_
  have hbirth (b : Piece) (hb : b.birthPitch = a.birthPitch) : position u b = position s a := by
    rw [hposition, position, position, hb]
  simp only [Function.comp_apply, Piece.slipped, hline, hgeometry]
  rw [hbirth]
  split_ifs <;> simp

/-- The piece of a number in a table whose pieces have been changed one by one. -/
theorem pieceNumbered_of_map {s t : State} {f : Piece → Piece} (hf : ∀ a, (f a).number = a.number)
    (ht : t.tracking.pieces = s.tracking.pieces.map f) (n : BitVec 16) :
    pieceNumbered t n = (pieceNumbered s n).map f := by
  rw [pieceNumbered, ht]
  exact find?_map_key (fun a : Piece => a.number) f hf n _

theorem Piece.graded_verify (key : Option Nat) (corrected : Nat) (g : Grade) (a : Piece) :
    (a.graded key corrected g).verify = some { key := key, corrected := corrected, grade := g } := by
  unfold Piece.graded
  dsimp only
  split_ifs
  · simp
  · simp
  · rw [Piece.passed_eq]

/-- A good or marginal read passes the verify step. -/
theorem Piece.graded_of_read {key : Option Nat} {corrected : Nat} {g : Grade} {a : Piece}
    (hg : g = .good ∨ g = .marginal) : a.graded key corrected g =
      { a with
        verify := some { key := key, corrected := corrected, grade := g }
        stage := if a.stage.rank < 4 then .verified else a.stage } := by
  have e : a.graded key corrected g
      = { a with verify := some (VerifyResult.mk key corrected g) }.passed .verified := by
    rcases hg with rfl | rfl <;> rfl
  rw [e, Piece.passed]
  by_cases h : a.stage.rank < 4
  · rw [if_pos h, if_pos (by exact h)]
  · rw [if_neg h, if_neg (by exact h)]

/-- CARRIER-SLIP by line state. -/
theorem carrierSlip_line {s u : State} (hu : u.line = s.line) :
    (s.line.state ≠ .idle → s.line.state ≠ .faulted →
      (takeFault .carrierSlip u).line.state = .faulted
        ∧ (takeFault .carrierSlip u).line.first = some .carrierSlip
        ∧ (takeFault .carrierSlip u).line.further = s.line.further)
    ∧ (s.line.state = .faulted →
      (takeFault .carrierSlip u).line = { s.line with further := s.line.further ||| 64 })
    ∧ (s.line.state = .idle → (takeFault .carrierSlip u).line = s.line) := by
  rw [← hu]
  refine ⟨fun hi hf => ?_, fun hf => ?_, fun hi => ?_⟩
  · cases h : u.line.state
    case idle => exact absurd h hi
    case faulted => exact absurd h hf
    case stopped => rw [takeFault_at_rest (.inl h)]; exact ⟨rfl, rfl, rfl⟩
    case holding => rw [takeFault_at_rest (.inr h)]; exact ⟨rfl, rfl, rfl⟩
    case running => rw [takeFault_moving (.inl h)]; exact ⟨rfl, rfl, rfl⟩
    case draining => rw [takeFault_moving (.inr h)]; exact ⟨rfl, rfl, rfl⟩
  · rw [takeFault_faulted hf]
    rfl
  · rw [takeFault_idle hi]

/-- Settles O48. -/
theorem readsAreJudgedForTheOldestPiece : Obligations.ReadsAreJudgedForTheOldestPiece := by
  refine ⟨fun key corrected s h => ?_,
    fun k s => ⟨fun o => slipPiece_spec, fun hn o => slipPiece_none hn o⟩, fun s h => ⟨?_, ?_, ?_⟩⟩
  · intro raised inForm
    refine ⟨fun hf => ?_, fun hf he => ?_, fun hf n rest he hp => ?_, fun hf n rest p he hr hp => ?_⟩
    · exact (next_lineEvent _ h).trans (congrArg _ (takeRead_out_of_form hf))
    · exact (next_lineEvent _ h).trans (congrArg _ (takeRead_stray hf he))
    · exact (next_lineEvent _ h).trans (congrArg _ (takeRead_missing hf he hp))
    · have hn := pieceNumbered_number hp
      refine ⟨judgeRead p key corrected s, gradeOf s p key corrected,
        (next_lineEvent _ h).trans (congrArg _ (takeRead_judged hf he hp)), ?expected, ?previous, ?good,
        ?marginal, ?noRead, ?other, gradeOf_slip_iff, ?oldest, ?notSlip, ?slip, ?counting, ?full⟩
      case expected =>
        rw [judgeRead_verify, (countRead_entries _ _).1]
        show s.verify.expected.filter (fun e => e ≠ p.number) = rest
        rw [he, hn, List.filter_cons_of_neg (by simp), List.filter_eq_self]
        exact fun e k => decide_eq_true fun j => hr (j ▸ k)
      case previous => rw [judgeRead_verify, (countRead_entries _ _).2, hn]
      case good => exact fun hk hc => by rw [gradeOf_own hk, if_pos hc]
      case marginal => exact fun hk hc => by rw [gradeOf_own hk, if_neg (Nat.not_le.mpr hc)]
      case noRead =>
        rintro rfl
        rfl
      case other =>
        intro h0 hk
        obtain ⟨k, rfl⟩ := Option.ne_none_iff_exists'.mp h0
        rw [gradeOf_other (fun j => hk (congrArg some j))]
        split
        · exact .inl rfl
        · exact .inr rfl
      case oldest =>
        by_cases hs : gradeOf s p key corrected = .slip
        · obtain ⟨hk, k, o, hkey, ho⟩ := gradeOf_slip_iff.mp hs
          have hne : o.number ≠ n :=
            slipPiece_number_ne hp (fun j => hk (hkey.trans (congrArg some j.symm))) ho
          have hko : key.bind (slipPiece s) = some o := by rw [hkey, Option.bind_some, ho]
          have ht := judgeRead_slip_tracking hs hko (hn ▸ hne)
          have hq := pieceNumbered_of_map (Piece.slipped_number s key corrected p.number o.number)
            (congrArg Tracking.pieces ht) n
          rw [hp] at hq
          refine ⟨_, hq, by rw [Piece.slipped_verify rfl, hs], ?_, ?_, ?_⟩
          all_goals simp [hs]
        · have ht := (judgeRead_of_not_slip (g := gradeOf s p key corrected) rfl hs).2
          have hq := pieceNumbered_of_map (fun a => by split <;> simp [Piece.graded_number])
            (congrArg Tracking.pieces ht) n
          rw [hp, Option.map_some, if_pos rfl] at hq
          refine ⟨_, hq, Piece.graded_verify _ _ _ _, Piece.graded_of_read, fun hg => ?_, fun hg => ?_⟩
          · simp only [Piece.graded, hg, if_true]
          · simp only [Piece.graded, hg, if_true, reduceCtorEq, if_false]
      case notSlip =>
        intro hs
        obtain ⟨hline, htracking⟩ := judgeRead_of_not_slip (g := gradeOf s p key corrected) rfl hs
        exact ⟨hline, hn ▸ htracking⟩
      case slip =>
        intro hs k o hk ho
        have hne : o.number ≠ n :=
          slipPiece_number_ne hp (fun j => (gradeOf_slip_iff.mp hs).1 (hk.trans (congrArg some j.symm))) ho
        have hko : key.bind (slipPiece s) = some o := by rw [hk, Option.bind_some, ho]
        obtain ⟨u, hu, hline, -⟩ := judgeRead_slip hs rfl hko (hn ▸ hne)
        refine ⟨hne, hn ▸ judgeRead_slip_tracking hs hko (hn ▸ hne), ?_⟩
        rw [hu]
        exact carrierSlip_line hline
      case counting =>
        intro hr
        rw [judgeRead_verify, countRead_partial _ (by exact hr)]
        refine ⟨rfl, ?_, ?_⟩
        · by_cases hm : gradeOf s p key corrected = .marginal <;> simp [hm]
        · simp
      case full =>
        intro hr
        rw [judgeRead_verify, countRead_full _ (by exact hr)]
        refine ⟨rfl, rfl, ?_⟩
        by_cases hm : gradeOf s p key corrected = .marginal <;> simp [hm]
  · exact next_lineEvent _ h
  · intro he
    refine (next_lineEvent _ h).trans (congrArg _ ?_)
    rw [readDiscarded, if_pos (by simp [he])]
    rfl
  · intro he
    refine (next_lineEvent _ h).trans (congrArg _ ?_)
    rw [readDiscarded, if_neg (by simp [he])]

end Sys2Proof.Machine

/-! PROOF. Time limits (R60, R147), the close of bundles and the CLEAR edge (R134 to R136, R140 to R147):
O41, O42 and O43. -/

namespace Sys2Proof.Machine

/-! ### The limits that fall next -/

section Falls
variable {s : State} {p : PocketId} {x : Nat}

theorem holdRemaining_eq_some_iff : holdRemaining s = some x ↔ s.line.state = .holding
    ∧ s.line.holdLimit ≠ 0 ∧ x = s.line.holdLimit * 1000 - s.line.holdTimer.total := by
  unfold holdRemaining
  split
  next h => simp [h, eq_comm]
  next h =>
    simp only [reduceCtorEq, false_iff]
    tauto

theorem ejectRemaining_eq_some_iff : ejectRemaining s p = some x ↔ pocketState s p = .ejecting
    ∧ (ejectTimer s p).jammed = false
    ∧ x = (s.stacker.ejectLimit + 1) * 1000 - (ejectTimer s p).timer.total := by
  unfold ejectRemaining
  split
  next h => simp [h, eq_comm]
  next h =>
    simp only [reduceCtorEq, false_iff]
    tauto

/-- The eject limit that falls first, of two at one moment that of A. -/
def FirstEject (s : State) (p : PocketId) (x : Nat) : Prop :=
  ejectRemaining s p = some x
    ∧ ∀ y, ejectRemaining s (otherPocket p) = some y → x < y ∨ (x = y ∧ p = .a)

/-- The sooner of the two eject limits. -/
def nextEject (s : State) : Option (Nat × Expiry) :=
  sooner ((ejectRemaining s .a).map (fun t => (t, Expiry.eject .a)))
    ((ejectRemaining s .b).map (fun t => (t, Expiry.eject .b)))

theorem nextEject_of_first (h : FirstEject s p x) : nextEject s = some (x, .eject p) := by
  obtain ⟨hx, hy⟩ := h
  cases p with
  | a =>
    simp only [otherPocket] at hy
    cases hb : ejectRemaining s .b with
    | none => simp [nextEject, hx, hb, sooner]
    | some y =>
      have := hy y hb
      simp [nextEject, hx, hb, sooner]
      omega
  | b =>
    simp only [otherPocket] at hy
    cases ha : ejectRemaining s .a with
    | none => simp [nextEject, hx, ha, sooner]
    | some y =>
      have : x < y := by simpa using hy y ha
      simp [nextEject, hx, ha, sooner, this]

/-- The sooner of two is one of them. -/
theorem sooner_cases (x y : Option (Nat × Expiry)) : sooner x y = x ∨ sooner x y = y := by
  cases x with
  | none => exact .inr rfl
  | some x =>
    cases y with
    | none => exact .inl rfl
    | some y =>
      rw [sooner]
      split
      · exact .inr rfl
      · exact .inl rfl

theorem nextEject_some {t : Nat} {e : Expiry} (h : nextEject s = some (t, e)) :
    ∃ p, e = .eject p ∧ ejectRemaining s p = some t := by
  have of (p : PocketId) (k : (ejectRemaining s p).map (fun t => (t, Expiry.eject p)) = some (t, e)) :
      ∃ p, e = .eject p ∧ ejectRemaining s p = some t := by
    obtain ⟨u, hu, hp⟩ := Option.map_eq_some_iff.mp k
    obtain ⟨rfl, rfl⟩ := Prod.mk.inj hp
    exact ⟨p, rfl, hu⟩
  rcases sooner_cases _ _ with k | k
  · exact of .a (k.symm.trans h)
  · exact of .b (k.symm.trans h)

theorem nextExpiry_eq (s : State) : nextExpiry s =
    match (holdRemaining s).map (fun t => (t, Expiry.hold)), nextEject s with
    | some x, some y =>
      if x.1 = y.1 then (if Config.holdExpiryFirst s.draws then some x else some y)
      else sooner (some x) (some y)
    | none, y => y
    | x, none => x := rfl

theorem nextExpiry_cases (s : State) :
    nextExpiry s = (holdRemaining s).map (fun t => (t, Expiry.hold)) ∨ nextExpiry s = nextEject s := by
  rw [nextExpiry_eq]
  generalize (holdRemaining s).map (fun t => (t, Expiry.hold)) = x
  generalize nextEject s = y
  cases x with
  | none => exact .inr rfl
  | some x =>
    cases y with
    | none => exact .inl rfl
    | some y =>
      dsimp only
      split_ifs
      · exact .inl rfl
      · exact .inr rfl
      · exact sooner_cases _ _

theorem nextExpiry_some {t : Nat} {e : Expiry} (h : nextExpiry s = some (t, e)) :
    holdRemaining s = some t ∨ ∃ p, ejectRemaining s p = some t := by
  rcases nextExpiry_cases s with k | k
  · obtain ⟨u, hu, hp⟩ := Option.map_eq_some_iff.mp (k ▸ h)
    exact .inl (hu.trans (congrArg some (Prod.mk.inj hp).1))
  · exact .inr ((nextEject_some (k ▸ h)).imp fun _ => And.right)

/-- The hold limit falls before any eject limit. -/
theorem nextExpiry_hold (hx : holdRemaining s = some x)
    (he : ∀ p y, ejectRemaining s p = some y → x < y) : nextExpiry s = some (x, .hold) := by
  rw [nextExpiry_eq, hx]
  cases hn : nextEject s with
  | none => rfl
  | some y =>
    obtain ⟨p, -, hy⟩ := nextEject_some hn
    have := he p _ hy
    simp [sooner, Nat.ne_of_lt this, Nat.not_lt.mpr (Nat.le_of_lt this)]

/-- An eject limit falls before the hold limit. -/
theorem nextExpiry_eject (hx : FirstEject s p x) (hh : ∀ y, holdRemaining s = some y → x < y) :
    nextExpiry s = some (x, .eject p) := by
  rw [nextExpiry_eq, nextEject_of_first hx]
  cases hy : holdRemaining s with
  | none => rfl
  | some y =>
    have := hh y hy
    simp [sooner, Nat.ne_of_gt this, this]

/-- The hold limit and an eject limit fall at one moment: either is taken first. -/
theorem nextExpiry_tie (hx : FirstEject s p x) (hh : holdRemaining s = some x) :
    nextExpiry s = some (x, .hold) ∨ nextExpiry s = some (x, .eject p) := by
  rw [nextExpiry_eq, nextEject_of_first hx, hh]
  simp only [Option.map_some, if_true]
  split
  · exact .inl rfl
  · exact .inr rfl

end Falls

/-! ### The passing of time -/

theorem passTime_of_later {n : Nat} {s : State}
    (h : ∀ x, (holdRemaining s = some x ∨ ∃ p, ejectRemaining s p = some x) → n < x) :
    passTime n s = advanceTimers n s := by
  rw [passTime_eq]
  cases hn : nextExpiry s with
  | none => rfl
  | some y => exact if_neg (Nat.not_le.mpr (h y.1 (nextExpiry_some hn)))

theorem passTime_of_next {n x : Nat} {s : State} {e : Expiry} (hn : nextExpiry s = some (x, e))
    (hx : x ≤ n) : passTime n s = passTime (n - x) (takeExpiry e (advanceTimers x s)) := by
  rw [passTime_eq, hn]
  exact if_pos hx

/-- A pocket's eject timer with values of its own, POCKET-JAM raised. -/
def jamTimer (p : PocketId) (ms micros : Nat) (s : State) : State :=
  setEjectTimer p { timer := { ms := ms, micros := micros }, jammed := true } s

theorem takePocketJam_eq (p : PocketId) (s : State) : takePocketJam p s =
    takeFault .pocketJam (jamTimer p (ejectTimer s p).timer.ms (ejectTimer s p).timer.micros s) := rfl

/-- POCKET-JAM after the timer of an EJECTING pocket has advanced. -/
theorem takeExpiry_eject {p : PocketId} {s : State} (h : pocketState s p = .ejecting) (x : Nat) :
    takeExpiry (.eject p) (advanceTimers x s) = takeFault .pocketJam
      (jamTimer p ((ejectTimer s p).timer.advance x).ms ((ejectTimer s p).timer.advance x).micros
        { advanceTimers x s with draws := s.draws + 1 }) := by
  have ht : ejectTimer { advanceTimers x s with draws := s.draws + 1 } p
      = { ejectTimer s p with timer := (ejectTimer s p).timer.advance x } := by
    cases p <;> exact if_pos h
  have e := takePocketJam_eq p { advanceTimers x s with draws := s.draws + 1 }
  rw [ht] at e
  exact e

/-! ### The events of the limits (R60, R147) -/

theorem pocketJam_of_still {p : PocketId} {s : State}
    (h : pocketState s p ≠ .ejecting ∨ (ejectTimer s p).jammed = true) : pocketJam p s = s := by
  refine if_neg fun ⟨he, hj⟩ => ?_
  rcases h with h | h
  · exact h he
  · exact absurd (h.symm.trans hj) (by decide)

theorem pocketJam_of_ejecting {p : PocketId} {s : State} (he : pocketState s p = .ejecting)
    (hj : (ejectTimer s p).jammed = false) : pocketJam p s = takeFault .pocketJam
      (if s.stacker.ejectLimit < (ejectTimer s p).timer.ms then
        jamTimer p (ejectTimer s p).timer.ms (ejectTimer s p).timer.micros s
      else jamTimer p (s.stacker.ejectLimit + 1) 0 s) := by
  rw [pocketJam, if_pos ⟨he, hj⟩, takePocketJam_eq]
  split <;> cases p <;> rfl

theorem holdTimeout_of_still {s : State} (h : s.line.state ≠ .holding ∨ s.line.holdLimit = 0) :
    holdTimeout s = s := if_neg (by tauto)

/-- Settles O42. -/
theorem timeLimitsRaiseTheirFaults : Obligations.TimeLimitsRaiseTheirFaults := by
  unfold Obligations.TimeLimitsRaiseTheirFaults
  intro fault jam
  have hfault (c : FaultCause) (s : State) : takeFault c s = fault c s := takeFault_eq_faultByState c s
  have hjam (p : PocketId) (ms micros : Nat) (s : State) : jamTimer p ms micros s = jam p ms micros s := by
    cases p <;> rfl
  refine ⟨fun p s h => ⟨fun hs => ?_, fun he hj => ?_⟩, fun s h => ⟨fun hs => ?_, fun hs h0 => ?_⟩,
    fun n s => ?_⟩
  · exact (next_lineEvent _ h).trans (congrArg _ (pocketJam_of_still hs))
  · refine (next_lineEvent _ h).trans (congrArg _ ?_)
    rw [pocketJam_of_ejecting he hj, hfault, hjam, hjam]
  · exact (next_lineEvent _ h).trans (congrArg _ (holdTimeout_of_still hs))
  · refine (next_lineEvent _ h).trans (congrArg _ ?_)
    rw [holdTimeout, if_pos ⟨hs, h0⟩, takeHoldTimeout, takeFault_at_rest (.inr (by exact hs))]
    rfl
  · intro later ejecting advanced drawn shown holdFalls ejectFalls firstEject timedOut jammed
    have hadvanced (x : Nat) : advanceTimers x s = advanced x := by
      simp only [advanceTimers, advanced]
      cases s.startup.rdyIn <;> rfl
    have hhold (x : Nat) : holdRemaining s = some x ↔ holdFalls x := holdRemaining_eq_some_iff
    have heject (p : PocketId) (x : Nat) : ejectRemaining s p = some x ↔ ejectFalls p x :=
      ejectRemaining_eq_some_iff
    have hfirst (p : PocketId) (x : Nat) (k : firstEject p x) : FirstEject s p x :=
      ⟨(heject p x).mpr k.1, fun y hy => k.2 y ((heject _ y).mp hy)⟩
    have htimed (x : Nat) (hn : nextExpiry s = some (x, .hold)) (hx : x ≤ n) :
        passTime n s = timedOut x := by
      rw [passTime_of_next hn hx, hadvanced]
      exact congrArg (passTime (n - x)) (hfault _ _)
    have hjammed (p : PocketId) (x : Nat) (k : firstEject p x)
        (hn : nextExpiry s = some (x, .eject p)) (hx : x ≤ n) : passTime n s = jammed p x := by
      rw [passTime_of_next hn hx, takeExpiry_eject k.1.1, hadvanced, hfault, hjam]
      rfl
    refine ⟨fun hl => ?_, fun x hf hx he => ?_, fun p x hp hx hh => ?_, fun p x hp hx hf => ?_⟩
    · rw [← hadvanced]
      refine passTime_of_later fun x hx => hl x ?_
      rcases hx with hx | ⟨p, hx⟩
      · exact .inl ((hhold x).mp hx)
      · cases p
        · exact .inr (.inl ((heject _ x).mp hx))
        · exact .inr (.inr ((heject _ x).mp hx))
    · exact htimed x (nextExpiry_hold ((hhold x).mpr hf) fun p y hy => he p y ((heject p y).mp hy)) hx
    · exact hjammed p x hp (nextExpiry_eject (hfirst p x hp) fun y hy => hh y ((hhold y).mp hy)) hx
    · exact (nextExpiry_tie (hfirst p x hp) ((hhold x).mpr hf)).imp (fun k => htimed x k hx)
        (fun k => hjammed p x hp k hx)

end Sys2Proof.Machine

/-! PROOF. The close of bundles (R134 to R136, R140 to R145): O43. -/

namespace Sys2Proof.Machine

/-! ### The close of a bundle (R144, R145) -/

/-- The queued REMAKEs of a bundle that its close sends to EXCEPTION, in queue order (R145). -/
def lateKeys (s : State) (n : Nat) : List Nat := (queuedRemakesOf s n).take (lateRoom s)

/-- What a close changes: the bundle, the timer of its pocket, and what its queued REMAKEs become. -/
theorem closeBundle_effect {n : Nat} (why : CloseReason) {s : State} {b : Bundle}
    (h : findBundle s n = some b) : closeBundle n why s =
      { s with
        store := s.store.map (fun r => if r.key ∈ lateKeys s n then
          { r with state := .exception, disposition := some .lateUnmade } else r)
        queue := { s.queue with order := s.queue.order.filter (fun k => k ∉ lateKeys s n) }
        stacker :=
          { s.stacker with
            bundles := s.stacker.bundles.map (fun c => if c.number = n then c.closedWith why else c)
            ejectA := if b.pocket = some .a then EjectTimer.stopped else s.stacker.ejectA
            ejectB := if b.pocket = some .b then EjectTimer.stopped else s.stacker.ejectB
            exceptions := s.stacker.exceptions ++ (lateKeys s n).map (fun k =>
              ExceptionEntry.mk k .lateUnmade ((findRecord s k).bind (fun r => r.lastDefect)) none
                (((findRecord s k).map (fun r => r.remakeCount)).getD 0)) } } := by
  rw [closeBundle_eq why h, lateUnmades_eq]
  rcases hp : b.pocket with _ | p
  · rfl
  · cases p <;> rfl

/-- The bundles after a close. -/
theorem closeBundle_bundles {n : Nat} (why : CloseReason) {s : State} {b : Bundle}
    (h : findBundle s n = some b) : (closeBundle n why s).stacker.bundles
      = s.stacker.bundles.map (fun c => if c.number = n then c.closedWith why else c) := by
  rw [closeBundle_effect why h]

theorem isComplete_iff (b : Bundle) : b.isComplete = true
    ↔ b.final = true ∧ 1 ≤ b.stackedCount ∧ b.stackedCount = b.plannedCount := by
  simp [Bundle.isComplete, and_assoc]

section Completion
variable {n : Nat} {s : State} {b : Bundle} (hb : findBundle s n = some b)
include hb

theorem completionTest_of_complete (h : (b.state = .filling ∨ b.state = .held) ∧ b.final = true
    ∧ 1 ≤ b.stackedCount ∧ b.stackedCount = b.plannedCount) :
    completionTest n s = closeBundle n .planned s := by
  simp only [completionTest, hb]
  exact if_pos ⟨h.1, (isComplete_iff b).mpr h.2⟩

theorem completionTest_of_not_complete (h : ¬ ((b.state = .filling ∨ b.state = .held) ∧ b.final = true
    ∧ 1 ≤ b.stackedCount ∧ b.stackedCount = b.plannedCount)) : completionTest n s = s := by
  simp only [completionTest, hb]
  exact if_neg fun k => h ⟨k.1, (isComplete_iff b).mp k.2⟩

end Completion

/-! ### Bundles with numbers of their own -/

/-- With distinct numbers, a bundle record of the table is the one its number names. -/
theorem findBundle_of_mem {s : State} {b : Bundle}
    (hn : (s.stacker.bundles.map (fun b => b.number)).Nodup) (hb : b ∈ s.stacker.bundles) :
    findBundle s b.number = some b := by
  unfold findBundle
  generalize s.stacker.bundles = l at hn hb
  induction l with
  | nil => cases hb
  | cons a l ih =>
    rw [List.map_cons, List.nodup_cons] at hn
    rcases List.mem_cons.mp hb with rfl | hb
    · simp
    · have hne : a.number ≠ b.number := fun k => hn.1 (k ▸ List.mem_map_of_mem hb)
      rw [List.find?_cons_of_neg (by simpa using hne)]
      exact ih hn.2 hb

/-! ### The expiry test (R135, R140) -/

/-- The hold age is the pitch count less the hold start pitch, modulo 2 to the 32 (R135). -/
theorem holdAge_of_start {s : State} {b : Bundle} {start : BitVec 32} (h : b.holdStart = some start) :
    holdAge s b = (s.line.pitch.toNat + 4294967296 - start.toNat) % 4294967296 := by
  simp only [holdAge, h, BitVec.toNat_sub]
  have := start.isLt
  congr 1
  omega

/-- Whether an expiry test against an age closes a bundle. -/
def expires (s : State) (least : Nat) (b : Bundle) : Bool :=
  b.heldUnclaimed && decide (least ≤ holdAge s b)

theorem expires_iff (s : State) (least : Nat) (b : Bundle) : expires s least b = true
    ↔ b.state = .held ∧ b.claim = false ∧ least ≤ holdAge s b := by
  simp [expires, Bundle.heldUnclaimed, and_assoc]

/-- The bundle after an expiry test. -/
def Bundle.expired (s : State) (least : Nat) (b : Bundle) : Bundle :=
  if expires s least b then b.closedWith .holdExpired else b

/-- What an expiry test leaves alone, and the bundles it has closed among those of some numbers. -/
structure ExpiredAmong (ns : List Nat) (least : Nat) (s t : State) : Prop where
  bundles : t.stacker.bundles
    = s.stacker.bundles.map (fun b => if b.number ∈ ns then b.expired s least else b)
  line : t.line = s.line
  tracking : t.tracking = s.tracking
  units : t.units = s.units
  holds : t.holds = s.holds
  host : t.host = s.host
  planner : t.planner = s.planner

theorem Bundle.expired_number (s : State) (least : Nat) (b : Bundle) :
    (b.expired s least).number = b.number := by
  unfold Bundle.expired
  split <;> rfl

/-- A bundle tested twice is the bundle tested. -/
theorem Bundle.expired_expired (s : State) (least : Nat) (b : Bundle) :
    (b.expired s least).expired s least = b.expired s least := by
  unfold Bundle.expired
  split
  · exact if_neg (by simp [expires, Bundle.closedWith, Bundle.heldUnclaimed])
  · rfl

/-- One bundle tested. -/
theorem expireBundle_spec (least : Nat) {s : State} (hn : (s.stacker.bundles.map (fun b => b.number)).Nodup)
    (n : Nat) : ExpiredAmong [n] least s (expireBundle least s n) := by
  have same (h : ∀ b, findBundle s n = some b → expires s least b = false) :
      ExpiredAmong [n] least s s := by
    refine ⟨?_, rfl, rfl, rfl, rfl, rfl, rfl⟩
    conv_lhs => rw [← List.map_id s.stacker.bundles]
    refine List.map_congr_left fun b hb => ?_
    by_cases hbn : b.number = n
    · have hfalse := h b (hbn ▸ findBundle_of_mem hn hb)
      simp [Bundle.expired, hfalse]
    · simp [hbn]
  unfold expireBundle
  split
  next hf => exact same fun b hb => by rw [hf] at hb; cases hb
  next b hf =>
    split
    next he =>
      have hmap : s.stacker.bundles.map (fun c => if c.number = n then c.closedWith .holdExpired else c)
          = s.stacker.bundles.map (fun c => if c.number ∈ [n] then c.expired s least else c) := by
        refine List.map_congr_left fun c hc => ?_
        by_cases hcn : c.number = n
        · have : c = b := Option.some.inj ((findBundle_of_mem hn hc).symm.trans (hcn ▸ hf))
          have hexp : expires s least c = true := this ▸ he
          simp [hcn, Bundle.expired, hexp]
        · simp [hcn]
      rw [closeBundle_effect _ hf]
      exact ⟨hmap, rfl, rfl, rfl, rfl, rfl, rfl⟩
    next he =>
      exact same fun c hc => by
        rw [hf] at hc
        exact Option.some.inj hc ▸ Bool.eq_false_iff.mpr he

theorem expireBundles_spec (least : Nat) (ns : List Nat) : ∀ s : State,
    (s.stacker.bundles.map (fun b => b.number)).Nodup →
    ExpiredAmong ns least s (ns.foldl (expireBundle least) s) := by
  induction ns with
  | nil =>
    intro s _
    refine ⟨?_, rfl, rfl, rfl, rfl, rfl, rfl⟩
    simp
  | cons n ns ih =>
    intro s hn
    have h1 := expireBundle_spec least hn n
    generalize hu : expireBundle least s n = u at h1
    have hnumber (b : Bundle) : (if b.number ∈ [n] then b.expired s least else b).number = b.number := by
      split
      · exact b.expired_number s least
      · rfl
    have hnu : (u.stacker.bundles.map (fun b => b.number)).Nodup := by
      rw [h1.bundles, map_number hnumber]
      exact hn
    have h2 := ih u hnu
    have hexpired (b : Bundle) : b.expired u least = b.expired s least := by
      have hage : holdAge u b = holdAge s b := by rw [holdAge, holdAge, h1.line]
      rw [Bundle.expired, expires, hage]
      rfl
    rw [List.foldl_cons, hu]
    refine ⟨?_, h2.line.trans h1.line, h2.tracking.trans h1.tracking, h2.units.trans h1.units,
      h2.holds.trans h1.holds, h2.host.trans h1.host, h2.planner.trans h1.planner⟩
    rw [h2.bundles, h1.bundles, List.map_map]
    refine List.map_congr_left fun b _ => ?_
    simp only [Function.comp_apply, hexpired, hnumber]
    by_cases hb : b.number = n <;> by_cases hbs : b.number ∈ ns <;>
      simp [hb, hbs, Bundle.expired_expired]

/-- The expiry test closes every bundle that expires, and no other. -/
theorem expireFrom_spec (least : Nat) {s : State} (h : BundleSafe s) :
    (expireFrom least s).stacker.bundles = s.stacker.bundles.map (fun b =>
      if b.state = .held ∧ b.claim = false ∧ least ≤ holdAge s b then
        { b with
          state := .ejecting
          reason := some .holdExpired
          short := decide (b.stackedCount < b.plannedCount)
          claim := false }
      else b)
    ∧ (expireFrom least s).line = s.line ∧ (expireFrom least s).tracking = s.tracking
    ∧ (expireFrom least s).units = s.units ∧ (expireFrom least s).holds = s.holds
    ∧ (expireFrom least s).host = s.host ∧ (expireFrom least s).planner = s.planner := by
  obtain ⟨hb, h1, h2, h3, h4, h5, h6⟩ :=
    expireBundles_spec least (s.stacker.bundles.map (fun b => b.number)) s h.1
  refine ⟨hb.trans (List.map_congr_left fun b hm => ?_), h1, h2, h3, h4, h5, h6⟩
  rw [if_pos (List.mem_map_of_mem hm), Bundle.expired]
  exact if_congr (expires_iff s least b) rfl rfl

/-! ### Force close (R135, R136) -/

theorem heldUnclaimed_iff (b : Bundle) : b.heldUnclaimed = true ↔ b.state = .held ∧ b.claim = false := by
  simp [Bundle.heldUnclaimed]

/-- The HELD unclaimed bundle of a pocket. -/
def unclaimedIn (s : State) (k : PocketId) : Option Bundle :=
  (bundleIn s k).filter Bundle.heldUnclaimed

theorem unclaimedIn_eq_some_iff (s : State) (k : PocketId) (b : Bundle) : unclaimedIn s k = some b
    ↔ bundleIn s k = some b ∧ b.state = .held ∧ b.claim = false := by
  rw [unclaimedIn, Option.filter_eq_some_iff, heldUnclaimed_iff]

theorem forceChoice_eq (s : State) : forceChoice s = match unclaimedIn s .a, unclaimedIn s .b with
    | some x, some y => some (if holdAge s y > holdAge s x then y.number else x.number)
    | some x, none => some x.number
    | none, some y => some y.number
    | none, none => none := rfl

/-- A force close takes the HELD unclaimed bundle of the largest hold age (R135). -/
theorem forceChoice_spec {s : State} {m : Nat} (h : forceChoice s = some m) :
    ∃ k b, unclaimedIn s k = some b ∧ b.number = m
      ∧ ∀ c, unclaimedIn s (otherPocket k) = some c → holdAge s c ≤ holdAge s b := by
  rw [forceChoice_eq] at h
  cases ha : unclaimedIn s .a with
  | none =>
    cases hb : unclaimedIn s .b with
    | none => simp [ha, hb] at h
    | some y =>
      refine ⟨.b, y, hb, by simpa [ha, hb] using h, fun c hc => ?_⟩
      rw [show otherPocket .b = .a from rfl, ha] at hc
      cases hc
  | some x =>
    cases hb : unclaimedIn s .b with
    | none =>
      refine ⟨.a, x, ha, by simpa [ha, hb] using h, fun c hc => ?_⟩
      rw [show otherPocket .a = .b from rfl, hb] at hc
      cases hc
    | some y =>
      simp only [ha, hb, Option.some.injEq] at h
      split at h
      next hg =>
        refine ⟨.b, y, hb, h, fun c hc => ?_⟩
        obtain rfl := Option.some.inj (ha.symm.trans hc)
        exact Nat.le_of_lt hg
      next hg =>
        refine ⟨.a, x, ha, h, fun c hc => ?_⟩
        obtain rfl := Option.some.inj (hb.symm.trans hc)
        exact Nat.le_of_not_lt hg

theorem forceChoice_none {s : State} (h : forceChoice s = none) (k : PocketId) :
    unclaimedIn s k = none := by
  rw [forceChoice_eq] at h
  cases ha : unclaimedIn s .a <;> cases hb : unclaimedIn s .b <;> simp [ha, hb] at h
  cases k
  · exact ha
  · exact hb

theorem forceForRequest_of_request {s : State} (n : Nat) (hr : s.stacker.request ≠ none)
    (hf : ¬ (pocketState s .a = .free ∨ pocketState s .b = .free)) :
    forceForRequest n s = raisePocketWait (closeBundle n .forced s) := by
  refine if_pos ?_
  rw [Bool.and_eq_true, choosePocket_isNone_iff, Option.isSome_iff_ne_none]
  exact ⟨hr, not_or.mp hf⟩

theorem forceForRequest_of_none {s : State} (n : Nat) (h : s.stacker.request = none
    ∨ pocketState s .a = .free ∨ pocketState s .b = .free) : forceForRequest n s = s := by
  refine if_neg ?_
  rw [Bool.and_eq_true, choosePocket_isNone_iff, Option.isSome_iff_ne_none]
  tauto

/-- Settles O43. -/
theorem holdExpiryClosesHeldBundles : Obligations.HoldExpiryClosesHeldBundles := by
  refine ⟨fun s hs => ⟨fun m => expireFrom_spec _ hs,
      fun h => ⟨_, next_lineEvent _ h, expireFrom_spec _ hs⟩⟩,
    fun s b start => holdAge_of_start, fun n why s b hb => ?close,
    fun n s b hb => ⟨completionTest_of_complete hb, completionTest_of_not_complete hb⟩, fun n s => ?force⟩
  case close =>
    intro room late
    have hlate : lateKeys s n = late := by
      have e : queuedRemakesOf s n = s.queue.order.filter (fun k => (findRecord s k).any (fun r =>
          decide (r.kind = .remake) && decide (r.bundle = some n))) := by
        simp only [queuedRemakesOf, beq_eq_decide]
      rw [lateKeys, e]
      rfl
    rw [closeBundle_effect why hb, hlate]
    rfl
  case force =>
    intro free waiting
    refine ⟨forceForRequest_of_request n, forceForRequest_of_none n, fun m hm => ?_, fun hm k b hb hh => ?_⟩
    · obtain ⟨k, b, hb, hbm, hmax⟩ := forceChoice_spec hm
      obtain ⟨hin, hheld, hclaim⟩ := (unclaimedIn_eq_some_iff s k b).mp hb
      exact ⟨k, b, hin, hbm, hheld, hclaim, fun c hc hs hcl =>
        hmax c ((unclaimedIn_eq_some_iff s _ c).mpr ⟨hc, hs, hcl⟩)⟩
    · by_contra hc
      have := forceChoice_none hm k
      rw [(unclaimedIn_eq_some_iff s k b).mpr ⟨hb, hh, Bool.eq_false_iff.mpr hc⟩] at this
      cases this

end Sys2Proof.Machine

/-! PROOF. The pocket request and the CLEAR edge (R134, R136, R146): O41. -/

namespace Sys2Proof.Machine

/-! ### The pocket request (R134, R136) -/

/-- The request is answered with a pocket: the bundle gets it, and POCKET-WAIT is cleared. -/
def requestAnswered (n : Nat) (k : PocketId) (s : State) : State :=
  { s with
    stacker :=
      { s.stacker with
        bundles := s.stacker.bundles.map (fun b => if b.number = n then { b with pocket := some k } else b)
        lastReserved := some k
        request := none }
    holds := { s.holds with causes := { s.holds.causes with pocketWait := false } } }

theorem answerRequest_of_choice {s : State} {n : Nat} {k : PocketId} (hr : s.stacker.request = some n)
    (hk : choosePocket s = some k) : answerRequest s = requestAnswered n k s := by
  simp only [answerRequest, hr, hk, reserve, if_true]
  rfl

theorem answerRequest_of_none {s : State} (h : s.stacker.request = none
    ∨ (pocketState s .a ≠ .free ∧ pocketState s .b ≠ .free)) : answerRequest s = s := by
  rcases h with h | h
  · simp only [answerRequest, h]
  · have hk : choosePocket s = none := Option.isNone_iff_eq_none.mp ((choosePocket_isNone_iff s).mpr h)
    rw [answerRequest, hk]
    cases s.stacker.request <;> rfl

/-- Whatever the examination of the request does, it answers a standing one or changes nothing. -/
theorem answerRequest_cases (s : State) : answerRequest s = s
    ∨ ∃ n k, s.stacker.request = some n ∧ answerRequest s = requestAnswered n k s := by
  cases hr : s.stacker.request with
  | none => exact .inl (answerRequest_of_none (.inl hr))
  | some n =>
    cases hk : choosePocket s with
    | none =>
      refine .inl (answerRequest_of_none (.inr ?_))
      exact (choosePocket_isNone_iff s).mp (by rw [hk]; rfl)
    | some k => exact .inr ⟨n, k, rfl, answerRequest_of_choice hr hk⟩

/-- Of two FREE pockets the one not reserved last is chosen, A when none was (R134). -/
theorem choosePocket_eq_some {s : State} {k : PocketId} (hk : pocketState s k = .free)
    (ho : pocketState s (otherPocket k) = .free → s.stacker.lastReserved = some (otherPocket k)
      ∨ (s.stacker.lastReserved = none ∧ k = .a)) : choosePocket s = some k := by
  unfold choosePocket
  cases k with
  | a =>
    simp only [otherPocket] at ho
    cases hb : pocketState s .b <;> simp only [hk]
    case free => rcases ho hb with h | ⟨h, -⟩ <;> simp [h]
  | b =>
    simp only [otherPocket] at ho
    cases ha : pocketState s .a <;> simp only [hk]
    case free => rcases ho ha with h | ⟨-, h⟩ <;> simp_all

theorem pocketState_eq (s : State) (k : PocketId) : pocketState s k = match bundleIn s k with
    | none => .free
    | some b =>
      if b.state = .held then .held else if b.state = .ejecting then .ejecting else .filling := by
  unfold pocketState
  cases bundleIn s k with
  | none => rfl
  | some b => cases h : b.state <;> simp [h]

/-! ### The retirement test (R42) -/

/-- The QUEUED and IN-FLIGHT records lose their references to a plan. -/
def Record.withoutPlan (i : Nat) (r : Record) : Record :=
  if (r.state = .queued ∨ r.state = .inFlight) ∧ r.planRef.any (fun f => f.plan == i) then
    { r with planRef := none }
  else r

theorem retirePlan_eq (i : Nat) (s : State) : retirePlan i s =
    { s with
      store := s.store.map (Record.withoutPlan i)
      planner := { s.planner with plans := s.planner.plans.set i none } } := rfl

theorem retirementTest_cases (i : Nat) (s : State) :
    retirementTest i s = s ∨ retirementTest i s = retirePlan i s := by
  unfold retirementTest
  split
  · exact .inl rfl
  · split
    · exact .inr rfl
    · exact .inl rfl

theorem Record.withoutPlan_key (i : Nat) (r : Record) : (r.withoutPlan i).key = r.key := by
  unfold Record.withoutPlan
  split <;> rfl

theorem Record.withoutPlan_state (i : Nat) (r : Record) : (r.withoutPlan i).state = r.state
    ∧ (r.withoutPlan i).disposition = r.disposition := by
  unfold Record.withoutPlan
  split <;> exact ⟨rfl, rfl⟩

/-! ### The end of an ejection (R146) -/

/-- A state in which the ejection of a bundle is complete, before the request is examined. -/
def ejected (b : Bundle) (s : State) : State :=
  { s with
    store := s.store.map (fun r => if r.key ∈ b.members then
      { r with state := .bundled, disposition := some .mailed } else r)
    stacker :=
      { s.stacker with
        bundles := s.stacker.bundles.map (fun c => if c.number = b.number then
          { c with state := .closed, pocket := none } else c)
        closedOrder := s.stacker.closedOrder ++ [b.number] } }

/-- What the examination of the request and the retirement test leave alone. -/
structure AfterEjection (s u : State) : Prop where
  closedOrder : u.stacker.closedOrder = s.stacker.closedOrder
  bundle : ∀ n c, findBundle s n = some c → ∃ d, findBundle u n = some d ∧ d.state = c.state
    ∧ d.members = c.members ∧ (s.stacker.request ≠ some n → d.pocket = c.pocket)
  record : ∀ k r, findRecord s k = some r → ∃ q, findRecord u k = some q ∧ q.state = r.state
    ∧ q.disposition = r.disposition
  line : u.line = s.line
  tracking : u.tracking = s.tracking
  queue : u.queue = s.queue
  host : u.host = s.host
  exceptions : u.stacker.exceptions = s.stacker.exceptions
  units : u.units = s.units

theorem answerRequest_after (s : State) : AfterEjection s (answerRequest s) := by
  rcases answerRequest_cases s with e | ⟨n, k, hr, e⟩ <;> rw [e]
  · exact ⟨rfl, fun n c h => ⟨c, h, rfl, rfl, fun _ => rfl⟩, fun k r h => ⟨r, h, rfl, rfl⟩, rfl, rfl, rfl,
      rfl, rfl, rfl⟩
  · refine ⟨rfl, fun m c h => ?_, fun j r h => ⟨r, h, rfl, rfl⟩, rfl, rfl, rfl, rfl, rfl, rfl⟩
    by_cases hm : m = n
    · subst hm
      refine ⟨_, findBundle_updateBundle_same m (fun b => { b with pocket := some k }) (fun _ => rfl) h,
        rfl, rfl, fun k => absurd hr k⟩
    · exact ⟨c, (findBundle_updateBundle_other (fun b => { b with pocket := some k }) (fun _ => rfl) hm
        s).trans h, rfl, rfl, fun _ => rfl⟩

theorem retirementTest_after (i : Nat) (s : State) : AfterEjection s (retirementTest i s) := by
  rcases retirementTest_cases i s with e | e <;> rw [e]
  · exact ⟨rfl, fun n c h => ⟨c, h, rfl, rfl, fun _ => rfl⟩, fun k r h => ⟨r, h, rfl, rfl⟩, rfl, rfl, rfl,
      rfl, rfl, rfl⟩
  · refine ⟨rfl, fun n c h => ⟨c, h, rfl, rfl, fun _ => rfl⟩, fun k r h => ?_, rfl, rfl, rfl, rfl, rfl, rfl⟩
    refine ⟨r.withoutPlan i, ?_, Record.withoutPlan_state i r⟩
    exact (findRecord_mapRecords _ (Record.withoutPlan_key i) k (setPlan i none s)).trans
      (congrArg (Option.map _) h)

theorem clearEdge_of_ejecting {p : PocketId} {s : State} {b : Bundle} (hb : bundleIn s p = some b)
    (he : b.state = .ejecting) :
    clearEdge p s = settle (retirementTest b.plan (answerRequest (ejected b s))) := by
  simp only [clearEdge, hb, he, if_true]
  rfl

theorem clearEdge_of_not_ejecting {p : PocketId} {s : State}
    (h : ∀ b, bundleIn s p = some b → b.state ≠ .ejecting) : clearEdge p s = s := by
  unfold clearEdge
  split
  · rfl
  next b hb => exact if_neg (h b hb)

theorem settle_of_still {s : State} (hh : s.line.state ≠ .holding) (hd : s.line.state ≠ .draining) :
    settle s = s := by
  rw [settle_of_not_clear (.inl hh), drainTest_of_not_draining hd]

/-- A bundle in a pocket is one of the table. -/
theorem bundleIn_mem {s : State} {p : PocketId} {b : Bundle} (h : bundleIn s p = some b) :
    b ∈ s.stacker.bundles := List.mem_of_find?_eq_some h

/-- Settles O41. -/
theorem clearEdgeCompletesEjection : Obligations.ClearEdgeCompletesEjection := by
  refine ⟨fun p s h => ⟨fun hb => ?_, fun b hb he hs => ?_⟩, fun s => answerRequest_of_none,
    fun s n k hr hk ho => answerRequest_of_choice hr (choosePocket_eq_some hk ho), pocketState_eq⟩
  · exact (next_lineEvent _ h).trans (congrArg _ (clearEdge_of_not_ejecting hb))
  · intro closed u
    have ha : AfterEjection closed (answerRequest closed) := answerRequest_after closed
    have hr : AfterEjection (answerRequest closed) u := retirementTest_after b.plan _
    have hline : u.line = s.line := hr.line.trans ha.line
    have hfound : findBundle closed b.number = some { b with state := .closed, pocket := none } :=
      findBundle_updateBundle_same b.number (fun c => { c with state := .closed, pocket := none })
        (fun _ => rfl) (findBundle_of_mem hs.1 (bundleIn_mem hb))
    have hrecord (k : Nat) (r : Record) (hk : findRecord closed k = some r) : ∃ q,
        findRecord u k = some q ∧ q.state = r.state ∧ q.disposition = r.disposition := by
      obtain ⟨q, hq, h1, h2⟩ := ha.record k r hk
      obtain ⟨v, hv, h3, h4⟩ := hr.record k q hq
      exact ⟨v, hv, h3.trans h1, h4.trans h2⟩
    have hstore (k : Nat) : findRecord closed k = (findRecord s k).map (fun r => if r.key ∈ b.members then
        { r with state := .bundled, disposition := some .mailed } else r) :=
      findRecord_mapRecords (fun r => if r.key ∈ b.members then
        { r with state := .bundled, disposition := some .mailed } else r) (fun r => by split <;> rfl) k s
    refine ⟨?_, fun hh hd => settle_of_still (hline ▸ hh) (hline ▸ hd),
      hr.closedOrder.trans ha.closedOrder, ?_, fun k hk r hf => ?_, fun k hk r hf => ?_, hline,
      hr.tracking.trans ha.tracking, hr.queue.trans ha.queue, hr.host.trans ha.host,
      hr.exceptions.trans ha.exceptions, hr.units.trans ha.units⟩
    · exact (next_lineEvent _ h).trans (congrArg _ (clearEdge_of_ejecting hb he))
    · obtain ⟨c, hc, h1, h2, h3⟩ := ha.bundle _ _ hfound
      obtain ⟨d, hd, h4, h5, h6⟩ := hr.bundle _ _ hc
      refine ⟨d, hd, h4.trans h1, h5.trans h2, fun hn => ?_⟩
      rw [h6 ?_, h3 hn]
      intro k
      rcases answerRequest_cases closed with e | ⟨m, j, -, e⟩
      · rw [e] at k
        exact hn k
      · rw [e] at k
        cases k
    · have := hrecord k _ (by rw [hstore, hf, Option.map_some])
      simpa [findRecord_key hf, hk] using this
    · have := hrecord k _ (by rw [hstore, hf, Option.map_some])
      simpa [findRecord_key hf, hk] using this

end Sys2Proof.Machine

/-! PROOF. The forward count: within the pitch, and at a pitch mark the counts, the events, and the line
state that follows: O37 and O38. -/

namespace Sys2Proof.Machine

/-! ### The line unit through the events of a mark (R48, R57) -/

/-- The line unit that a drain completion leaves (R57). -/
def LineUnit.drainOver (l : LineUnit) : LineUnit := LineUnit.enter .stopped { l with drain := false }

/-- What the events of a mark can do to the line unit: nothing, or a drain completion. -/
def LineUnit.StaysOrDrains (l k : LineUnit) : Prop := k = l ∨ (l.state = .draining ∧ k = l.drainOver)

theorem LineUnit.drainOver_state (l : LineUnit) : l.drainOver.state = .stopped := rfl

theorem LineUnit.StaysOrDrains.trans {l k j : LineUnit} (h : l.StaysOrDrains k) (h' : k.StaysOrDrains j) :
    l.StaysOrDrains j := by
  rcases h with rfl | ⟨hl, rfl⟩
  · exact h'
  · rcases h' with rfl | ⟨hk, _⟩
    · exact .inr ⟨hl, rfl⟩
    · rw [l.drainOver_state] at hk
      exact absurd hk (by decide)

theorem drainTest_line (s : State) : s.line.StaysOrDrains (drainTest s).line := by
  unfold drainTest
  split
  · next h => exact .inr ⟨h.1, completeDrain_line s⟩
  · exact .inl rfl

theorem markEvent_line (m : LineState) (s : State) (e : MarkEvent) :
    s.line.StaysOrDrains (markEvent m s e).line := by
  cases e with
  | windowClose u =>
    refine .inl ?_
    rw [markEvent]
    split
    · rfl
    · exact (windowCloseAtMark_step u s).line
  | stackerArrival => exact .inl (stackerArrival_step s).line
  | diverterArrival => exact .inl (diverterArrival_step s).line
  | lookAhead => exact .inl (lookAheadAtMark_step s).line
  | holdExpiry => exact .inl (holdExpiryTest_step s).line
  | wrapArrival => exact .inl (wrapArrival_step s).line
  | verifyTimeout => exact .inl (verifyTimeouts_step s).line
  | verifyArrival => exact .inl (verifyArrival_step s).line
  | carrierArrival => exact .inl (carrierArrival_step s).line
  | printerJobs => exact .inl (printerJobsAtMark_step s).line
  | insertArrivals => exact .inl (insertArrivals_step s).line
  | birthDecision => exact .inl (birthDecision_step m s).line
  | drainTest => exact drainTest_line s

theorem foldl_markEvent_line (m : LineState) (events : List MarkEvent) (s : State) :
    s.line.StaysOrDrains (events.foldl (markEvent m) s).line := by
  induction events generalizing s with
  | nil => exact .inl rfl
  | cons e events ih => exact (markEvent_line m s e).trans (ih _)

/-- The line unit before the change of line state of a mark. -/
theorem phaseZero_markEvents_line (m : LineState) (order : List MarkEvent) (s : State) :
    s.line.StaysOrDrains (phaseZero (markEvents m order s)).line := by
  rw [(phaseZero_step _).line]
  exact (foldl_markEvent_line m _ s).trans (drainTest_line _)

/-! ### The change of line state (R48, R55, R58, R64) -/

theorem LineState.moving_iff (m : LineState) : m.moving = true ↔ m = .running ∨ m = .draining := by
  cases m <;> decide

theorem heldAtMark_iff (s : State) : heldAtMark s = true ↔
    (s.holds.raised.printerWait = true ∧ s.holds.causes.printerWait = true)
      ∨ (s.holds.raised.pocketWait = true ∧ s.holds.causes.pocketWait = true) := by
  simp [heldAtMark]

/-- A hold cause that was raised and stands is a cause. -/
theorem causes_ne_none_of_held {s : State} (h : heldAtMark s = true) : s.holds.causes ≠ HoldSet.none := by
  intro hn
  rw [heldAtMark_iff, hn] at h
  rcases h with ⟨_, h⟩ | ⟨_, h⟩ <;> exact absurd h (by decide)

section Change
variable {m : LineState} {s : State}

theorem changeAtMark_still (hm : ¬(m = .running ∨ m = .draining)) :
    changeAtMark m s = takeFault .overrun s := if_neg (mt (LineState.moving_iff m).mp hm)

theorem changeAtMark_drained (hm : m = .running ∨ m = .draining) (hs : s.line.state ≠ m) :
    changeAtMark m s = s := by
  rw [changeAtMark, if_pos ((LineState.moving_iff m).mpr hm), if_neg hs]

theorem changeAtMark_pause (hm : m = .running ∨ m = .draining) (hs : s.line.state = m)
    (hp : s.line.pause = true) : changeAtMark m s = enterLine .stopped s := by
  rw [changeAtMark, if_pos ((LineState.moving_iff m).mpr hm), if_pos hs, if_pos hp]

theorem changeAtMark_held (hm : m = .running ∨ m = .draining) (hs : s.line.state = m)
    (hp : s.line.pause = false) (hh : heldAtMark s = true) :
    changeAtMark m s = enterLine .holding s := by
  rw [changeAtMark, if_pos ((LineState.moving_iff m).mpr hm), if_pos hs, if_neg (by simp [hp]), if_pos hh]

theorem changeAtMark_on (hm : m = .running ∨ m = .draining) (hs : s.line.state = m)
    (hp : s.line.pause = false) (hh : ¬ heldAtMark s = true) : changeAtMark m s = s := by
  rw [changeAtMark, if_pos ((LineState.moving_iff m).mpr hm), if_pos hs, if_neg (by simp [hp]), if_neg hh]

end Change

/-- A moving line unit that stops or is held at a mark. -/
theorem LineUnit.enter_of_moving {l : LineUnit} {t : LineState} (hl : l.state = .running ∨ l.state = .draining)
    (ht : t = .stopped ∨ t = .holding) : l.enter t =
      { l with
        state := t
        pause := false
        period := none
        sinceMark := none
        holdTimer := if t = .holding then MsTimer.zero else l.holdTimer } := by
  rcases hl with hl | hl <;> rcases ht with rfl | rfl <;> simp [LineUnit.enter, LineState.moving, hl]

/-! ### The line unit after a mark -/

/-- The line unit after the counts of a mark (R47, R49). -/
def LineUnit.atMark (l : LineUnit) : LineUnit :=
  { l with
    inPitch := 0
    pitch := l.pitch + 1
    period := if l.state.moving = true then
        (l.sinceMark.map (fun x => min 4294967295 x)).or l.period
      else l.period
    sinceMark := if l.state.moving = true then some 0 else none }

theorem countPitch_line (s : State) : (countPitch s).line = s.line.atMark := by
  simp only [countPitch, LineUnit.atMark]
  cases s.line.sinceMark <;> rfl

theorem markBegun_line (s : State) : (markBegun s).line = s.line.atMark :=
  (beginPitch_step _).line.trans (countPitch_line s)

theorem LineUnit.atMark_pause (l : LineUnit) : l.atMark.pause = l.pause := rfl

theorem LineUnit.atMark_state (l : LineUnit) : l.atMark.state = l.state := rfl

/-- A line that does not move comes to the end of a mark with the counts alone changed. -/
theorem LineUnit.StaysOrDrains.eq_of_still {l k : LineUnit} (h : l.StaysOrDrains k)
    (hl : ¬(l.state = .running ∨ l.state = .draining)) : k = l := by
  rcases h with h | ⟨hd, _⟩
  · exact h
  · exact absurd (.inr hd) hl

section Mark
variable {s : State} (order : List MarkEvent)

/-- What a mark reached with DRIVE-ON off does to the line unit: the counts, then OVERRUN (R64). -/
theorem pitchMark_line_still (h : ¬(s.line.state = .running ∨ s.line.state = .draining)) :
    ∃ x : State, x.line = s.line.atMark ∧ (pitchMark order s).line = (takeFault .overrun x).line := by
  have hx := phaseZero_markEvents_line s.line.state order (markBegun s)
  rw [markBegun_line] at hx
  rw [pitchMark]
  generalize phaseZero (markEvents s.line.state order (markBegun s)) = x at hx ⊢
  have hl : (endMark (changeAtMark s.line.state x)).line = (changeAtMark s.line.state x).line := rfl
  exact ⟨x, hx.eq_of_still h, by rw [hl, changeAtMark_still h]⟩

/-- What a mark reached with DRIVE-ON on can do to the line unit (R48, R55, R57, R58). -/
theorem pitchMark_line_moving (h : s.line.state = .running ∨ s.line.state = .draining) :
    (s.line.state = .draining ∧ (pitchMark order s).line = s.line.atMark.drainOver)
      ∨ (s.line.pause = true ∧ (pitchMark order s).line = s.line.atMark.enter .stopped)
      ∨ (s.line.pause = false ∧ (pitchMark order s).line = s.line.atMark.enter .holding
        ∧ (pitchMark order s).holds.causes ≠ HoldSet.none)
      ∨ (s.line.pause = false ∧ (pitchMark order s).line = s.line.atMark) := by
  have hx := phaseZero_markEvents_line s.line.state order (markBegun s)
  rw [markBegun_line] at hx
  rw [pitchMark]
  generalize phaseZero (markEvents s.line.state order (markBegun s)) = x at hx ⊢
  rcases hx with hx | ⟨hd, hx⟩
  · have hs : x.line.state = s.line.state := by rw [hx, LineUnit.atMark_state]
    have hp : x.line.pause = s.line.pause := by rw [hx, LineUnit.atMark_pause]
    cases hpause : s.line.pause
    · by_cases hh : heldAtMark x = true
      · rw [changeAtMark_held h hs (hp.trans hpause) hh]
        refine .inr (.inr (.inl ⟨rfl, congrArg (LineUnit.enter .holding) hx, ?_⟩))
        exact causes_ne_none_of_held (s := x) hh
      · rw [changeAtMark_on h hs (hp.trans hpause) hh]
        exact .inr (.inr (.inr ⟨rfl, hx⟩))
    · rw [changeAtMark_pause h hs (hp.trans hpause)]
      exact .inr (.inl ⟨rfl, congrArg (LineUnit.enter .stopped) hx⟩)
  · have hd' : s.line.state = .draining := hd
    have hs : x.line.state ≠ s.line.state := by
      rw [hx, hd', LineUnit.drainOver_state]
      decide
    rw [changeAtMark_drained h hs]
    exact .inl ⟨hd', hx⟩

end Mark

/-! ### The forward count (R45, R47, R49) -/

theorem forwardCount_within (order : List MarkEvent) {s : State} (hb : s.line.backlash = 0)
    (hp : s.line.inPitch + 1 < s.geometry.c) : forwardCount order s =
      settle (phaseReached (s.line.inPitch + 1)
        { s with line := { s.line with inPitch := s.line.inPitch + 1 } }) := by
  rw [forwardCount, if_neg (by omega), if_neg (by omega)]

theorem forwardCount_mark (order : List MarkEvent) {s : State} (hb : s.line.backlash = 0)
    (hp : s.geometry.c ≤ s.line.inPitch + 1) : forwardCount order s = pitchMark order s := by
  rw [forwardCount, if_neg (by omega), if_pos hp]

theorem position_of_pitch {s u : State} (h : u.line.pitch = s.line.pitch) (p : Piece) :
    position u p = position s p := by
  rw [position, position, h]

/-- A mark moves every piece one position, modulo 2^32 (R47). -/
theorem position_of_next_pitch {s u : State} (h : u.line.pitch = s.line.pitch + 1) (p : Piece) :
    position u p = (position s p + 1) % 4294967296 := by
  simp only [position, h]
  bv_omega

theorem drainOver_measures (l : LineUnit) (h : l.state = .draining) :
    l.drainOver.period = none ∧ l.drainOver.sinceMark = none := by
  simp [LineUnit.drainOver, LineUnit.enter, LineState.moving, h]

/-- With DRIVE-ON turned off at a mark the period is absent and no measurement is in progress, and else the
mark leaves the line unit as it counted it (R49). -/
theorem pitchMark_measures_moving (order : List MarkEvent) {s : State}
    (h : s.line.state = .running ∨ s.line.state = .draining) :
    ((pitchMark order s).line.state = s.line.state → (pitchMark order s).line = s.line.atMark)
      ∧ ((pitchMark order s).line.state ≠ s.line.state →
        (pitchMark order s).line.period = none ∧ (pitchMark order s).line.sinceMark = none) := by
  have off {t : LineState} (ht : t = .stopped ∨ t = .holding)
      (hl : (pitchMark order s).line = s.line.atMark.enter t) :
      (pitchMark order s).line.state ≠ s.line.state ∧ (pitchMark order s).line.period = none
        ∧ (pitchMark order s).line.sinceMark = none := by
    rw [hl, LineUnit.enter_of_moving (l := s.line.atMark) h ht]
    refine ⟨show t ≠ s.line.state from ?_, rfl, rfl⟩
    rcases h with h | h <;> rw [h] <;> rcases ht with rfl | rfl <;> decide
  rcases pitchMark_line_moving order h with ⟨hd, hl⟩ | ⟨_, hl⟩ | ⟨_, hl, _⟩ | ⟨_, hl⟩
  · refine ⟨fun hs => ?_, fun _ => ?_⟩
    · rw [hl, hd, LineUnit.drainOver_state] at hs
      exact absurd hs (by decide)
    · rw [hl]
      exact drainOver_measures _ hd
  · exact ⟨fun hs => absurd hs (off (.inl rfl) hl).1, fun _ => (off (.inl rfl) hl).2⟩
  · exact ⟨fun hs => absurd hs (off (.inr rfl) hl).1, fun _ => (off (.inr rfl) hl).2⟩
  · exact ⟨fun _ => hl, fun hs => absurd (congrArg LineUnit.state hl) hs⟩

/-- OVERRUN leaves the measurement of a line that does not move alone. -/
theorem takeFault_measures_still (c : FaultCause) {s : State}
    (h : ¬(s.line.state = .running ∨ s.line.state = .draining)) :
    (takeFault c s).line.period = s.line.period
      ∧ (takeFault c s).line.sinceMark = s.line.sinceMark := by
  cases hs : s.line.state
  case idle => rw [takeFault_idle hs]; exact ⟨rfl, rfl⟩
  case stopped => rw [takeFault_at_rest (.inl hs)]; exact ⟨rfl, rfl⟩
  case holding => rw [takeFault_at_rest (.inr hs)]; exact ⟨rfl, rfl⟩
  case faulted => rw [takeFault_faulted hs]; exact ⟨rfl, rfl⟩
  case running => exact absurd (.inl hs) h
  case draining => exact absurd (.inr hs) h

theorem LineUnit.atMark_of_still {l : LineUnit} (h : ¬(l.state = .running ∨ l.state = .draining)) :
    l.atMark.period = l.period ∧ l.atMark.sinceMark = none := by
  have hm : ¬ l.state.moving = true := mt (LineState.moving_iff _).mp h
  exact ⟨if_neg hm, if_neg hm⟩

theorem pitchMark_measures_still (order : List MarkEvent) {s : State}
    (h : ¬(s.line.state = .running ∨ s.line.state = .draining)) :
    (pitchMark order s).line.period = s.line.period ∧ (pitchMark order s).line.sinceMark = none := by
  obtain ⟨x, hx, hl⟩ := pitchMark_line_still order h
  have hm := takeFault_measures_still .overrun (s := x) (by rw [hx]; exact h)
  rw [hx, (LineUnit.atMark_of_still h).1, (LineUnit.atMark_of_still h).2] at hm
  rw [hl]
  exact hm

/-- Settles O37. -/
theorem forwardCountMovesPhaseAndPitch : Obligations.ForwardCountMovesPhaseAndPitch := by
  unfold Obligations.ForwardCountMovesPhaseAndPitch
  intro i s h count t driven begun
  have hcount : count = .next (forwardCount i.order t) := exec_forwardCount h
  have ht : MotionStep { s with inputs := { s.inputs with gauge := i.gauge } } t := passTime_motion _ _
  rw [hcount]
  refine ⟨fun hb => by rw [forwardCount_of_backlash _ hb], fun hb hp => ?within, fun hb hp => ?mark,
    fun _ => rfl⟩
  case within =>
    rw [forwardCount_within _ hb hp]
    have hm := (phaseReached_step (t.line.inPitch + 1)
      { t with line := { t.line with inPitch := t.line.inPitch + 1 } }).motion.trans (settle_motion _)
    generalize settle (phaseReached _ _) = u at hm ⊢
    exact ⟨_, rfl, hm.inPitch, hm.pitch, hm.backlash.trans hb, position_of_pitch hm.pitch,
      hm.host.trans ht.host, hm.geometry.trans ht.geometry⟩
  case mark =>
    rw [forwardCount_mark _ hb hp]
    have hm := pitchMark_motion i.order t
    have hpitch : (pitchMark i.order t).line.pitch = t.line.pitch + 1 := by
      rw [hm.pitch, markBegun_line]
      rfl
    exact ⟨_, rfl, by rw [hm.inPitch, markBegun_line]; rfl, hpitch,
      by rw [hm.backlash, markBegun_line]; exact hb, position_of_next_pitch hpitch,
      hm.host.trans ht.host, hm.geometry.trans ht.geometry, markBegun_line t,
      fun hd => (pitchMark_measures_moving i.order hd).1,
      fun hd => (pitchMark_measures_moving i.order hd).2,
      fun hd => pitchMark_measures_still i.order hd⟩

/-! ### The order of the events of a mark (R48, log entry 2) -/

theorem nodup_eraseDups {α : Type} [BEq α] [LawfulBEq α] (l : List α) : l.eraseDups.Nodup := by
  induction hn : l.length using Nat.strongRecOn generalizing l with
  | ind n ih =>
    cases l with
    | nil => exact List.nodup_nil
    | cons a l =>
      rw [List.eraseDups_cons, List.nodup_cons]
      have hl : (l.filter fun b => !b == a).length < n :=
        Nat.lt_of_le_of_lt (List.length_filter_le _ l) (by rw [← hn, List.length_cons]; omega)
      exact ⟨by simp [List.mem_eraseDups], ih _ hl _ rfl⟩

theorem eraseDups_of_nodup {α : Type} [BEq α] [LawfulBEq α] {l : List α} (h : l.Nodup) :
    l.eraseDups = l := by
  induction l with
  | nil => rfl
  | cons a l ih =>
    obtain ⟨ha, hl⟩ := List.nodup_cons.mp h
    have hf : l.filter (fun b => !b == a) = l :=
      List.filter_eq_self.mpr fun b hb => by
        have hne : b ≠ a := fun k => ha (k ▸ hb)
        simp [hne]
    rw [List.eraseDups_cons, hf, ih hl]

theorem nodup_markOrder (order : List MarkEvent) : (markOrder order).Nodup := nodup_eraseDups _

theorem mem_markOrder {order : List MarkEvent} {e : MarkEvent} :
    e ∈ markOrder order ↔ e ∈ order ∨ e ∈ defaultOrder := by
  rw [markOrder, List.mem_eraseDups, List.mem_append]

/-- An order that names each event at most once is followed as it stands. -/
theorem markOrder_of_nodup {order : List MarkEvent} (h : order.Nodup) :
    ∃ rest, markOrder order = order ++ rest :=
  ⟨_, by rw [markOrder, List.eraseDups_append, eraseDups_of_nodup h]⟩

/-! ### The units at the beginning of a mark (R167, R168, R171) -/

theorem markBegun_eq (s : State) : markBegun s =
    { s with
      holds := { s.holds with raised := HoldSet.none }
      stacker := { s.stacker with markLimit := s.stacker.holdLimit }
      line := s.line.atMark
      units := s.units.mapIdx (fun u t => TimingUnit.compensate s.geometry.c
        (if isPulse u = true then
          advanceFor s.geometry.c (t.pending.getD t.settings).latency s.line.atMark.period else 0)
        { t with settings := t.pending.getD t.settings, pending := none, opened := false }) } := by
  rw [← countPitch_line]
  rfl

theorem drainTest_state_of_drained {s : State} (h : Drained s) (hs : s.line.state = .draining) :
    (drainTest s).line.state = .stopped := by
  rw [drainTest, if_pos ⟨hs, (drainConditions_iff s).mpr h⟩, completeDrain_line]
  rfl

theorem drainTest_eq_self {s : State} (h : ¬ Drained s ∨ s.line.state ≠ .draining) : drainTest s = s :=
  if_neg fun ⟨hs, hc⟩ => h.elim (fun hd => hd ((drainConditions_iff s).mp hc)) (fun hn => hn hs)

/-! ### The change of line state, as the statement of O38 has it -/

/-- The line unit of a moving line that a mark stops or holds. -/
def LineUnit.still (l : LineUnit) : LineUnit :=
  { l with pause := false, period := none, sinceMark := none }

theorem LineUnit.enter_stopped_of_moving {l : LineUnit} (hl : l.state = .running ∨ l.state = .draining) :
    l.enter .stopped = { l.still with state := .stopped } :=
  LineUnit.enter_of_moving hl (.inl rfl)

theorem LineUnit.enter_holding_of_moving {l : LineUnit} (hl : l.state = .running ∨ l.state = .draining) :
    l.enter .holding = { l.still with state := .holding, holdTimer := MsTimer.zero } :=
  LineUnit.enter_of_moving hl (.inr rfl)

/-! ### The line state after a mark (R48, R55, R57, R58, R64) -/

section After
variable {s : State} (order : List MarkEvent)

theorem pitchMark_running_paused (h : s.line.state = .running) (hp : s.line.pause = true) :
    (pitchMark order s).line = s.line.atMark.enter .stopped := by
  rcases pitchMark_line_moving order (.inl h) with ⟨hd, _⟩ | ⟨_, hl⟩ | ⟨hf, _⟩ | ⟨hf, _⟩
  · exact absurd (h.symm.trans hd) (by decide)
  · exact hl
  · exact absurd (hp.symm.trans hf) (by decide)
  · exact absurd (hp.symm.trans hf) (by decide)

theorem pitchMark_running (h : s.line.state = .running) (hp : s.line.pause = false) :
    (pitchMark order s).line.state = .running ∨ ((pitchMark order s).line.state = .holding
      ∧ (pitchMark order s).holds.causes ≠ HoldSet.none) := by
  rcases pitchMark_line_moving order (.inl h) with ⟨hd, _⟩ | ⟨ht, _⟩ | ⟨_, hl, hc⟩ | ⟨_, hl⟩
  · exact absurd (h.symm.trans hd) (by decide)
  · exact absurd (hp.symm.trans ht) (by decide)
  · exact .inr ⟨by rw [hl]; rfl, hc⟩
  · exact .inl (by rw [hl]; exact h)

theorem pitchMark_draining (h : s.line.state = .draining) :
    (pitchMark order s).line.state = .stopped ∨ (s.line.pause = false
      ∧ ((pitchMark order s).line.state = .draining ∨ (pitchMark order s).line.state = .holding)) := by
  rcases pitchMark_line_moving order (.inr h) with ⟨_, hl⟩ | ⟨_, hl⟩ | ⟨hp, hl, _⟩ | ⟨hp, hl⟩ <;> rw [hl]
  · exact .inl rfl
  · exact .inl rfl
  · exact .inr ⟨hp, .inr rfl⟩
  · exact .inr ⟨hp, .inl h⟩

theorem pitchMark_at_rest (h : s.line.state = .stopped ∨ s.line.state = .holding) :
    (pitchMark order s).line = s.line.atMark.faulted .overrun := by
  obtain ⟨x, hx, hl⟩ := pitchMark_line_still order (s := s) (by rcases h with h | h <;> rw [h] <;> decide)
  rw [hl, takeFault_at_rest (by rw [hx]; exact h), ← hx]

theorem pitchMark_faulted (h : s.line.state = .faulted) : (pitchMark order s).line =
    { s.line.atMark with further := s.line.atMark.further ||| 16 } := by
  obtain ⟨x, hx, hl⟩ := pitchMark_line_still order (s := s) (by rw [h]; decide)
  rw [hl, takeFault_faulted (by rw [hx]; exact h), ← hx]
  rfl

theorem pitchMark_idle (h : s.line.state = .idle) : (pitchMark order s).line = s.line.atMark := by
  obtain ⟨x, hx, hl⟩ := pitchMark_line_still order (s := s) (by rw [h]; decide)
  rw [hl, takeFault_idle (by rw [hx]; exact h), hx]

end After

/-- Settles O38. -/
theorem pitchMarkChangesLineState : Obligations.PitchMarkChangesLineState := by
  unfold Obligations.PitchMarkChangesLineState
  refine ⟨fun i s u h hu => ?state, fun i s h => ?events, fun m s => ?change, fun s => ?begun,
    fun m s => ?each⟩
  case state =>
    intro t hb hp
    have he := hu.symm.trans (exec_forwardCount h)
    rw [forwardCount_mark _ hb hp] at he
    obtain rfl : u = pitchMark i.order t := Host.Outcome.next.inj he
    refine ⟨fun hs hpause => ?_, pitchMark_running _, pitchMark_draining _, fun hs => ?_, fun hs => ?_,
      fun hs => ?_⟩
    · rw [pitchMark_running_paused _ hs hpause,
        LineUnit.enter_stopped_of_moving (l := t.line.atMark) (.inl hs)]
      exact ⟨rfl, rfl, rfl⟩
    · rw [pitchMark_at_rest _ hs]
      exact ⟨rfl, rfl, rfl⟩
    · rw [pitchMark_faulted _ hs]
      exact ⟨hs, rfl, rfl⟩
    · rw [pitchMark_idle _ hs]
      exact ⟨hs, rfl⟩
  case events =>
    intro t m p hb
    rw [exec_forwardCount h]
    refine ⟨fun hp => ⟨markOrder i.order, ?_, nodup_markOrder _, fun _ => mem_markOrder,
      markOrder_of_nodup⟩, fun hp => ?_⟩
    · exact congrArg Host.Outcome.next (forwardCount_mark _ hb hp)
    · exact congrArg Host.Outcome.next (forwardCount_within _ hb hp)
  case change =>
    intro moving held still
    refine ⟨changeAtMark_still, changeAtMark_drained, fun hm hs => ⟨fun hp => ?_, fun hp hh => ?_,
      fun hp hh => ?_⟩, rfl, rfl⟩
    · rw [changeAtMark_pause hm hs hp, enterLine, LineUnit.enter_stopped_of_moving (by rw [hs]; exact hm)]
      rfl
    · rw [changeAtMark_held hm hs hp ((heldAtMark_iff s).mpr hh), enterLine,
        LineUnit.enter_holding_of_moving (by rw [hs]; exact hm)]
      rfl
    · exact changeAtMark_on hm hs hp (mt (heldAtMark_iff s).mp hh)
  case begun =>
    intro c driven period
    have hm : s.line.state.moving = driven := by
      cases hs : s.line.state <;> simp [driven, hs, LineState.moving]
    rw [markBegun_eq, LineUnit.atMark, hm]
    rfl
  case each =>
    refine ⟨rfl, rfl, rfl, rfl, rfl, rfl, rfl, rfl, rfl, rfl, fun hd hs => ⟨rfl, drainTest_state_of_drained hd hs⟩,
      drainTest_eq_self, fun u hu => ?_⟩
    rw [markEvent, if_neg (by simp [hu])]
    rfl

end Sys2Proof.Machine

/-! PROOF. What departures and the close of bundles leave alone, and the release of a bundle: O35. -/

namespace Sys2Proof.Machine

/-! ### The bundle and plan tables beside the pieces -/

/-- A record that at most its plan reference and its bundle number distinguish from another. -/
def Record.SameBut (q r : Record) : Prop := q = { r with planRef := q.planRef, bundle := q.bundle }

theorem Record.SameBut.refl (r : Record) : r.SameBut r := rfl

theorem Record.SameBut.trans {p q r : Record} (h : p.SameBut q) (k : q.SameBut r) : p.SameBut r := by
  unfold Record.SameBut at *
  rw [h, k]

/-- What the operations of the bundle and plan tables leave alone: the pieces and the units that work on
them, and every record that is not queued, but for its plan reference and bundle number. -/
structure TableStep (s t : State) : Prop where
  tracking : t.tracking = s.tracking := by rfl
  carrier : t.carrier = s.carrier := by rfl
  verify : t.verify = s.verify := by rfl
  diverter : t.diverter = s.diverter := by rfl
  units : t.units = s.units := by rfl
  unqueued : ∀ k, k ∉ s.queue.order → k ∉ t.queue.order := by exact fun _ h => h
  record : ∀ k r, k ∉ s.queue.order → findRecord s k = some r →
    ∃ q, findRecord t k = some q ∧ q.SameBut r := by exact fun _ r _ h => ⟨r, h, rfl⟩

theorem TableStep.refl (s : State) : TableStep s s := {}

theorem TableStep.trans {s t u : State} (h : TableStep s t) (k : TableStep t u) : TableStep s u where
  tracking := k.tracking.trans h.tracking
  carrier := k.carrier.trans h.carrier
  verify := k.verify.trans h.verify
  diverter := k.diverter.trans h.diverter
  units := k.units.trans h.units
  unqueued := fun j hj => k.unqueued j (h.unqueued j hj)
  record := fun j r hj hr => by
    obtain ⟨q, hq, hqr⟩ := h.record j r hj hr
    obtain ⟨p, hp, hpq⟩ := k.record j q (h.unqueued j hj) hq
    exact ⟨p, hp, hpq.trans hqr⟩

theorem TableStep.ite {s t u : State} (c : Prop) [Decidable c] (h : TableStep s t) (k : TableStep s u) :
    TableStep s (if c then t else u) := by
  split
  · exact h
  · exact k

/-- A change of every record's plan reference or bundle number. -/
theorem mapRecords_table {f : Record → Record} (h : ∀ r, (f r).SameBut r) (s : State) :
    TableStep s (mapRecords f s) where
  record := fun k r _ hr => by
    have hk (r : Record) : (f r).key = r.key := by
      have hr := h r
      unfold Record.SameBut at hr
      rw [hr]
    exact ⟨f r, by rw [findRecord_mapRecords f hk, hr]; rfl, h r⟩

theorem updateOrdinal_table (f : PlanRef) (g : Ordinal → Ordinal) (s : State) :
    TableStep s (updateOrdinal f g s) := by
  unfold updateOrdinal
  split
  · exact {}
  · exact {}

theorem updateBundle_table (n : Nat) (f : Bundle → Bundle) (s : State) :
    TableStep s (updateBundle n f s) := {}

theorem Record.withoutPlan_same (i : Nat) (r : Record) : (r.withoutPlan i).SameBut r := by
  unfold Record.withoutPlan
  split <;> rfl

theorem retirementTest_table (i : Nat) (s : State) : TableStep s (retirementTest i s) := by
  rcases retirementTest_cases i s with e | e <;> rw [e]
  · exact .refl s
  · exact TableStep.trans (t := setPlan i none s) {} (mapRecords_table (Record.withoutPlan_same i) _)

theorem answerRequest_table (s : State) : TableStep s (answerRequest s) := by
  rcases answerRequest_cases s with e | ⟨n, k, -, e⟩ <;> rw [e]
  · exact .refl s
  · exact {}

theorem eraseBundle_table (n : Nat) (s : State) : TableStep s (eraseBundle n s) :=
  TableStep.trans (t := { s with
      stacker := { s.stacker with bundles := s.stacker.bundles.filter (fun b => b.number ≠ n) } })
    {} (mapRecords_table (fun r => by split <;> rfl) _)

theorem freeUnclosed_table (n : Nat) (w : CloseReason) (s : State) :
    TableStep s (freeUnclosed n w s) := by
  unfold freeUnclosed
  split
  · exact .refl s
  · next b _ =>
    have h := eraseBundle_table n s
    have h' := h.trans (TableStep.ite (s.stacker.request = some n)
      (t := clearRequest
        { eraseBundle n s with
          stacker :=
            { (eraseBundle n s).stacker with
              lastFreed := some { bundle := n, route := b.route, reason := w }
              freedCount := raise top16 (eraseBundle n s).stacker.freedCount } })
      (u :=
        { eraseBundle n s with
          stacker :=
            { (eraseBundle n s).stacker with
              lastFreed := some { bundle := n, route := b.route, reason := w }
              freedCount := raise top16 (eraseBundle n s).stacker.freedCount } }) {} {})
    exact TableStep.ite _ (h'.trans (answerRequest_table _)) h'

/-- The queued REMAKEs of a bundle are in the queue. -/
theorem lateKeys_mem {s : State} {n k : Nat} (h : k ∈ lateKeys s n) : k ∈ s.queue.order :=
  List.mem_of_mem_filter (List.mem_of_mem_take h)

theorem closeBundle_table (n : Nat) (w : CloseReason) (s : State) : TableStep s (closeBundle n w s) := by
  cases hb : findBundle s n with
  | none =>
    rw [closeBundle, hb]
    exact .refl s
  | some b =>
    rw [closeBundle_effect w hb]
    refine { unqueued := fun k hk h => hk (List.mem_of_mem_filter h), record := fun k r hk hr => ?_ }
    have hkey (r : Record) : (if r.key ∈ lateKeys s n then
        { r with state := .exception, disposition := some .lateUnmade } else r : Record).key = r.key := by
      split <;> rfl
    refine ⟨r, (findRecord_mapRecords _ hkey k s).trans ?_, rfl⟩
    rw [hr, Option.map_some, if_neg]
    rw [findRecord_key hr]
    exact fun h => hk (lateKeys_mem h)

theorem completionTest_table (n : Nat) (s : State) : TableStep s (completionTest n s) := by
  rcases completionTest_cases n s with ⟨b, -, -, -, e⟩ | e <;> rw [e]
  · exact closeBundle_table n _ s
  · exact .refl s

theorem departHandOff_table (f : PlanRef) (n : Nat) (s : State) : TableStep s (departHandOff f n s) := by
  unfold departHandOff
  split
  · exact .refl s
  · exact TableStep.ite _ ((freeUnclosed_table n _ s).trans ((updateOrdinal_table f _ _).trans
      (retirementTest_table _ _))) (completionTest_table n s)

theorem departFrom_table (f : PlanRef) (m : Nat) (s : State) : TableStep s (departFrom f m s) := by
  unfold departFrom
  split
  · exact .refl s
  · split
    · exact TableStep.ite _ ((updateOrdinal_table f _ s).trans ((updateOrdinal_table f _ _).trans
        (retirementTest_table _ _))) (updateOrdinal_table f _ s)
    · split
      · exact .refl s
      · exact TableStep.ite _ ((updateOrdinal_table f _ s).trans ((updateBundle_table _ _ _).trans
          (departHandOff_table f _ _))) (.refl s)
    all_goals exact .refl s

/-- A departure leaves the pieces alone, and every record that is not queued but for its plan reference
and its bundle number. -/
theorem depart_table (r : Record) (s : State) : TableStep s (depart r s) := by
  unfold depart
  split
  · exact .refl s
  · exact departFrom_table _ _ s

/-! ### The retirement test (R42) -/

theorem retirementTest_of_ended {i : Nat} {s : State} {p : Plan} (hp : planAt s i = some p)
    (h : ∀ o ∈ p.sizes, OrdinalEnds s o) : retirementTest i s = retirePlan i s := by
  have hall : p.sizes.all (ordinalDone s) = true :=
    List.all_eq_true.mpr fun o ho => (ordinalDone_iff s o).mpr (h o ho)
  simp only [retirementTest, hp, hall, if_true]

theorem retirementTest_of_standing {i : Nat} {s : State} {p : Plan} (hp : planAt s i = some p)
    (h : ∃ o ∈ p.sizes, ¬ OrdinalEnds s o) : retirementTest i s = s := by
  obtain ⟨o, ho, hn⟩ := h
  have hall : ¬ p.sizes.all (ordinalDone s) = true := fun k =>
    hn ((ordinalDone_iff s o).mp (List.all_eq_true.mp k o ho))
  simp only [retirementTest, hp, if_neg hall]

theorem retirementTest_of_free {i : Nat} {s : State} (hp : planAt s i = none) :
    retirementTest i s = s := by
  simp only [retirementTest, hp]

/-- An update of an ordinal, whether or not a plan stands in its entry. -/
theorem updateOrdinal_modify (f : PlanRef) (g : Ordinal → Ordinal) (s : State) : updateOrdinal f g s =
    { s with
      planner :=
        { s.planner with
          plans := s.planner.plans.modify f.plan
            (Option.map (fun p => { p with sizes := p.sizes.modify f.ordinal g })) } } := by
  cases hp : planAt s f.plan with
  | none =>
    have hs : s.planner.plans.modify f.plan
        (Option.map (fun p : Plan => { p with sizes := p.sizes.modify f.ordinal g }))
          = s.planner.plans := by
      refine List.ext_getElem? fun j => ?_
      rw [List.getElem?_modify]
      split
      · next hj =>
        subst hj
        rw [planAt, List.getD_eq_getElem?_getD] at hp
        cases hq : s.planner.plans[f.plan]? with
        | none => rfl
        | some q =>
          rw [hq, Option.getD_some] at hp
          simp [hp]
      · simp
    rw [updateOrdinal, hp, hs]
  | some p =>
    have hget : s.planner.plans[f.plan]? = some (some p) := by
      have hl := planAt_lt hp
      rw [planAt, List.getD_eq_getElem?_getD, List.getElem?_eq_getElem hl, Option.getD_some] at hp
      rw [List.getElem?_eq_getElem hl, hp]
    rw [updateOrdinal, hp]
    dsimp only [setPlan]
    congr 2
    refine List.ext_getElem? fun j => ?_
    rw [List.getElem?_modify, List.getElem?_set]
    by_cases hj : f.plan = j
    · subst hj
      rw [if_pos rfl, if_pos (planAt_lt hp), hget]
      simp
    · simp [hj]

/-! ### RELEASE BUNDLE (R150) -/

theorem exec_releaseBundle {n : Nat} {s : State} (h : Listening s) :
    exec (.releaseBundle (.fields n)) s = .next (releaseBundle n (emptyLatch s)) :=
  congrArg Host.Outcome.next (hostCommand_listening n releaseBundle h)

section Release
variable {n : Nat} {s : State}

theorem releaseBundle_of_unknown (h : findBundle s n = none) :
    releaseBundle n s = refuseWith .notFound s := by
  simp only [releaseBundle, h]

theorem releaseBundle_of_not_closed {b : Bundle} (h : findBundle s n = some b) (hs : b.state ≠ .closed) :
    releaseBundle n s = refuseWith .state s := by
  simp only [releaseBundle, h, if_neg hs]

theorem releaseBundle_of_closed {b : Bundle} (h : findBundle s n = some b) (hs : b.state = .closed) :
    releaseBundle n s = answer .ok (le 2 b.members.length) (releaseClosed b s) := by
  simp only [releaseBundle, h, if_pos hs]

end Release

/-- The state in which a released bundle and its members are gone, before the retirement test. -/
def bundleReleased (b : Bundle) (s : State) : State :=
  { s with
    store := (s.store.filter (fun r => r.key ∉ b.members)).map (fun r =>
      if r.bundle = some b.number then { r with bundle := none } else r)
    queue := { s.queue with order := s.queue.order.filter (fun k => k ∉ b.members) }
    planner :=
      { s.planner with
        plans := s.planner.plans.modify b.plan (Option.map (fun p =>
          { p with
            sizes := p.sizes.modify b.ordinal (fun o =>
              if o.status = .allocated b.number then { o with status := .released } else o) })) }
    stacker :=
      { s.stacker with
        bundles := s.stacker.bundles.filter (fun c => c.number ≠ b.number)
        closedOrder := s.stacker.closedOrder.filter (fun m => m ≠ b.number) } }

/-- Members freed from a changed store are those of the store, changed. -/
theorem filter_members_map (l : List Record) (n : Nat) (ks : List Nat) :
    (l.map (fun r => if r.bundle = some n then { r with bundle := none } else r)).filter
        (fun r => decide (r.key ∉ ks))
      = (l.filter (fun r => decide (r.key ∉ ks))).map
        (fun r => if r.bundle = some n then { r with bundle := none } else r) := by
  rw [List.filter_map]
  congr 1
  refine List.filter_congr fun r _ => ?_
  rw [Function.comp_apply]
  split <;> rfl

theorem releaseClosed_eq (b : Bundle) (s : State) :
    releaseClosed b s = retirementTest b.plan (bundleReleased b s) := by
  rw [releaseClosed, freeRecords_eq, updateOrdinal_modify]
  congr 1
  dsimp only [eraseBundle, mapRecords, bundleReleased]
  rw [filter_members_map]
  rfl

theorem retirementTest_keys (i : Nat) (s : State) :
    (retirementTest i s).store.map (fun r => r.key) = s.store.map (fun r => r.key) := by
  rcases retirementTest_cases i s with e | e <;> rw [e]
  rw [retirePlan_eq, List.map_map]
  exact List.map_congr_left fun r _ => r.withoutPlan_key i

theorem bundleReleased_keys (b : Bundle) (s : State) : (bundleReleased b s).store.map (fun r => r.key)
    = (s.store.map (fun r => r.key)).filter (fun k => decide (k ∉ b.members)) := by
  rw [bundleReleased, List.map_map, List.filter_map]
  refine List.map_congr_left fun r _ => ?_
  rw [Function.comp_apply]
  split <;> rfl

/-- Settles O35. -/
theorem releaseBundleFreesMembers : Obligations.ReleaseBundleFreesMembers := by
  refine ⟨fun n s h => ⟨fun hf => ?_, fun b hb => ⟨fun hs => ?_, fun hs => ?_⟩⟩, fun i s =>
    ⟨fun p hp ho => ?_, fun p hp ho => retirementTest_of_standing hp ho, retirementTest_of_free⟩⟩
  · refine (exec_releaseBundle h).trans ?_
    rw [releaseBundle_of_unknown (s := emptyLatch s) hf]
    rfl
  · refine (exec_releaseBundle h).trans ?_
    rw [releaseBundle_of_not_closed (s := emptyLatch s) hb hs]
    rfl
  · obtain rfl := findBundle_number hb
    intro freed
    have hk := retirementTest_keys b.plan freed
    refine ⟨?_, hk.trans (bundleReleased_keys b (emptyLatch s))⟩
    refine (exec_releaseBundle h).trans ?_
    rw [releaseBundle_of_closed (s := emptyLatch s) hb hs, releaseClosed_eq,
      answer_of_host (s := s) (retirementTest_step b.plan (bundleReleased b (emptyLatch s))).host]
    rfl
  · exact (retirementTest_of_ended hp ho).trans (retirePlan_eq i s)

end Sys2Proof.Machine

/-! PROOF. Departures by the status of the ordinal, and WITHDRAW: O33. -/

namespace Sys2Proof.Machine

/-! ### A bundle freed without a close (R148) -/

/-- What is left of a bundle freed without a close, before the request is examined. -/
def unclosedFreed (n route : Nat) (w : CloseReason) (s : State) : State :=
  { s with
    store := s.store.map (fun a => if a.bundle = some n then { a with bundle := none } else a)
    stacker :=
      { s.stacker with
        bundles := s.stacker.bundles.filter (fun c => c.number ≠ n)
        lastFreed := some (FreedReport.mk n route w)
        freedCount :=
          if s.stacker.freedCount < 65535 then s.stacker.freedCount + 1 else s.stacker.freedCount
        request := if s.stacker.request = some n then none else s.stacker.request }
    holds :=
      if s.stacker.request = some n then
        { s.holds with causes := { s.holds.causes with pocketWait := false } }
      else s.holds }

theorem freeUnclosed_eq {n : Nat} {s : State} {b : Bundle} (w : CloseReason)
    (h : findBundle s n = some b) : freeUnclosed n w s =
      if b.pocket = none then unclosedFreed n b.route w s
      else answerRequest (unclosedFreed n b.route w s) := by
  have hfreed : (if s.stacker.request = some n then
        clearRequest
          { eraseBundle n s with
            stacker :=
              { (eraseBundle n s).stacker with
                lastFreed := some { bundle := n, route := b.route, reason := w }
                freedCount := raise top16 (eraseBundle n s).stacker.freedCount } }
      else
        { eraseBundle n s with
          stacker :=
            { (eraseBundle n s).stacker with
              lastFreed := some { bundle := n, route := b.route, reason := w }
              freedCount := raise top16 (eraseBundle n s).stacker.freedCount } })
      = unclosedFreed n b.route w s := by
    by_cases hr : s.stacker.request = some n
    · rw [if_pos hr, unclosedFreed, if_pos hr, if_pos hr]
      rfl
    · rw [if_neg hr, unclosedFreed, if_neg hr, if_neg hr]
      rfl
  simp only [freeUnclosed, h]
  rw [hfreed]
  cases b.pocket <;> rfl

/-! ### Departures (R39, R40) -/

/-- An ordinal entry of a plan replaced. -/
def withOrdinal (f : PlanRef) (p : Plan) (e : Ordinal) (u : State) : State :=
  { u with
    planner :=
      { u.planner with
        plans := u.planner.plans.set f.plan (some { p with sizes := p.sizes.set f.ordinal e }) } }

theorem planAt_withOrdinal {f : PlanRef} {p : Plan} {s u : State} (e : Ordinal)
    (hp : planAt s f.plan = some p) (hu : u.planner = (withOrdinal f p e s).planner) :
    planAt u f.plan = some { p with sizes := p.sizes.set f.ordinal e } := by
  refine planAt_of_set (s := s) _ ?_ hp
  rw [hu]
  rfl

/-- An entry replaced a second time. -/
theorem updateOrdinal_withOrdinal {f : PlanRef} {p : Plan} {o e : Ordinal} {s u : State}
    (g : Ordinal → Ordinal) (hp : planAt s f.plan = some p) (ho : p.sizes[f.ordinal]? = some o)
    (hu : u.planner = (withOrdinal f p e s).planner) :
    updateOrdinal f g u = withOrdinal f p (g e) u := by
  have hlt : f.ordinal < p.sizes.length := (List.getElem?_eq_some_iff.mp ho).1
  rw [updateOrdinal_eq g (planAt_withOrdinal e hp hu) (o := e) (by simp [hlt])]
  simp [withOrdinal]

/-- The state in which the ordinal and the bundle of a departing record have fallen by it. -/
def fallen (r : Record) (f : PlanRef) (p : Plan) (o : Ordinal) (n : Nat) (b : Bundle) (s : State) : State :=
  withOrdinal f p (o.fall b.stackedCount r.nominalMass) (updateBundle n (Bundle.fall r.nominalMass) s)

theorem findBundle_fallen {r : Record} {f : PlanRef} {p : Plan} {o : Ordinal} {n : Nat} {b : Bundle}
    {s : State} (hb : findBundle s n = some b) :
    findBundle (fallen r f p o n b s) n = some (b.fall r.nominalMass) :=
  findBundle_updateBundle_same n (Bundle.fall r.nominalMass) (fun _ => rfl) hb

section Depart
variable {r : Record} {s : State} {f : PlanRef} {p : Plan} {o : Ordinal} (hr : r.planRef = some f)
  (hp : planAt s f.plan = some p) (ho : p.sizes[f.ordinal]? = some o)
include hr hp ho

theorem depart_of_ordinal : depart r s = departFrom f r.nominalMass s
    ∧ ordinalAt s f = some o := by
  refine ⟨by simp only [depart, hr], ?_⟩
  rw [ordinalAt_of_planAt hp, ho]

theorem depart_of_waiting (hs : o.status = .waiting) (hc : 1 < o.count) :
    depart r s = withOrdinal f p (o.fall 0 r.nominalMass) s := by
  obtain ⟨hd, ha⟩ := depart_of_ordinal hr hp ho
  rw [hd]
  simp only [departFrom, ha, hs, if_neg (show ¬ o.count - 1 = 0 by omega)]
  exact updateOrdinal_eq _ hp ho

theorem depart_of_last_waiting (hs : o.status = .waiting) (hc : o.count ≤ 1) :
    depart r s = retirementTest f.plan
      (withOrdinal f p { o.fall 0 r.nominalMass with status := .skipped } s) := by
  obtain ⟨hd, ha⟩ := depart_of_ordinal hr hp ho
  have hfall : updateOrdinal f (Ordinal.fall 0 r.nominalMass) s
      = withOrdinal f p (o.fall 0 r.nominalMass) s := updateOrdinal_eq _ hp ho
  rw [hd]
  simp only [departFrom, ha, hs, if_pos (show o.count - 1 = 0 by omega)]
  rw [hfall, updateOrdinal_withOrdinal (s := s) _ hp ho rfl]
  simp [withOrdinal]

theorem depart_of_over (hs : o.status = .skipped ∨ o.status = .emptied ∨ o.status = .released) :
    depart r s = s := by
  obtain ⟨hd, ha⟩ := depart_of_ordinal hr hp ho
  rw [hd]
  rcases hs with hs | hs | hs <;> simp only [departFrom, ha, hs]

section Allocated
variable {n : Nat} {b : Bundle} (hs : o.status = .allocated n) (hb : findBundle s n = some b)
include hs hb

theorem depart_of_done (hst : b.state = .ejecting ∨ b.state = .closed) : depart r s = s := by
  obtain ⟨hd, ha⟩ := depart_of_ordinal hr hp ho
  rw [hd]
  rcases hst with hst | hst <;> simp [departFrom, ha, hs, hb, hst]

theorem depart_of_open (hst : b.state = .forming ∨ b.state = .filling ∨ b.state = .held) :
    depart r s = departHandOff f n (fallen r f p o n b s) := by
  obtain ⟨hd, ha⟩ := depart_of_ordinal hr hp ho
  rw [hd]
  simp only [departFrom, ha, hs, hb, if_pos hst, updateOrdinal_eq _ hp ho]
  rfl

theorem depart_of_left (hst : b.state = .forming ∨ b.state = .filling ∨ b.state = .held)
    (hl : max b.stackedCount (b.plannedCount - 1) ≠ 0) :
    depart r s = completionTest n (fallen r f p o n b s) := by
  rw [depart_of_open hr hp ho hs hb hst]
  simp only [departHandOff, findBundle_fallen hb]
  exact if_neg fun h => hl h.1

theorem depart_of_emptied (hst : b.state = .forming ∨ b.state = .filling ∨ b.state = .held)
    (hl : max b.stackedCount (b.plannedCount - 1) = 0) :
    depart r s = retirementTest f.plan (withOrdinal f p
      { o.fall b.stackedCount r.nominalMass with status := .emptied, final := true }
      (freeUnclosed n .emptied (fallen r f p o n b s))) := by
  rw [depart_of_open hr hp ho hs hb hst]
  simp only [departHandOff, findBundle_fallen hb]
  have hz : (b.fall r.nominalMass).plannedCount = 0 ∧ (b.fall r.nominalMass).stackedCount = 0 :=
    ⟨hl, Nat.max_eq_zero_iff.mp hl |>.1⟩
  rw [if_pos hz, updateOrdinal_withOrdinal (s := s) (e := o.fall b.stackedCount r.nominalMass) _ hp ho]
  exact freeUnclosed_planner n _ _

end Allocated
end Depart

/-! ### The pieces through a dispatch and the settling of the line -/

theorem dispatchFrom_numbers (ps : List Piece) : ∀ s, (dispatchFrom ps s).tracking.pieces.map
    (fun p => p.number) = s.tracking.pieces.map (fun p => p.number) := by
  induction ps with
  | nil => exact fun s => rfl
  | cons p ps ih =>
    intro s
    have hsend : (sendJob p s).tracking.pieces.map (fun p => p.number)
        = s.tracking.pieces.map (fun p => p.number) := by
      unfold sendJob
      rw [produce_carrier]
      dsimp only [updatePiece, mapPieces]
      rw [List.map_map]
      refine List.map_congr_left fun q _ => ?_
      rw [Function.comp_apply]
      split <;> rfl
    cases h : p.job <;> simp only [dispatchFrom, h]
    case due =>
      split
      · rw [ih, hsend]
      · rfl
    all_goals exact ih s

theorem dispatch_numbers (s : State) : (dispatch s).tracking.pieces.map (fun p => p.number)
    = s.tracking.pieces.map (fun p => p.number) := dispatchFrom_numbers _ s

theorem dispatch_store (s : State) : (dispatch s).store = s.store := by rw [dispatch_eq]

theorem updatePrinterWait_store (s : State) : (updatePrinterWait s).store = s.store := by
  rw [updatePrinterWait_eq]

theorem updatePrinterWait_tracking (s : State) : (updatePrinterWait s).tracking = s.tracking := by
  rw [updatePrinterWait_eq]

/-- While a piece is in the table the settling of the line leaves the store and the pieces alone. -/
theorem settle_of_pieces {s : State} (h : s.tracking.pieces ≠ []) :
    (settle s).store = s.store ∧ (settle s).tracking = s.tracking := by
  have hnot {u : State} (hu : u.tracking = s.tracking) : ¬ Drained u := fun hd => h (hu ▸ hd.1)
  have hresume : (resumeIfClear s).store = s.store ∧ (resumeIfClear s).tracking = s.tracking := by
    unfold resumeIfClear
    split
    · rw [startMoving, drainTest_of_not_drained (hnot (u := enterLine (movingState s) s) rfl)]
      exact ⟨rfl, rfl⟩
    · exact ⟨rfl, rfl⟩
  rw [settle, drainTest_of_not_drained (hnot hresume.2)]
  exact hresume

/-! ### WITHDRAW (R20 to R24) -/

theorem exec_withdraw {key : Nat} {s : State} (h : Listening s) :
    exec (.withdraw (.fields key)) s = .next (withdraw key (emptyLatch s)) :=
  congrArg Host.Outcome.next (hostCommand_listening key withdraw h)

section Withdraw
variable {key : Nat} {s : State} {r : Record}

theorem withdraw_of_unknown (h : findRecord s key = none) : withdraw key s = refuseWith .notFound s := by
  simp only [withdraw, h]

theorem withdraw_of_queued (h : findRecord s key = some r) (hs : r.state = .queued) :
    withdraw key s = withdrawQueued r s := by
  simp only [withdraw, h, hs]

theorem withdraw_of_out (h : findRecord s key = some r) (hs : r.state = .stacked ∨ r.state = .bundled) :
    withdraw key s = refuseWith .tooLate s := by
  rcases hs with hs | hs <;> simp only [withdraw, h, hs]

theorem withdraw_of_exception (h : findRecord s key = some r) (hs : r.state = .exception) :
    withdraw key s = refuseWith .state s := by
  simp only [withdraw, h, hs]

section InFlight
variable {p : Piece} (h : findRecord s key = some r) (hs : r.state = .inFlight) (hp : pieceOf s key = some p)
include h hs hp

theorem withdraw_of_passing (hg : p.stage = .passing) : withdraw key s = refuseWith .tooLate s := by
  simp only [withdraw, h, hs, hp, if_pos hg]

theorem withdraw_of_pending (hg : p.stage ≠ .passing) (hw : r.withdrawPending = true) :
    withdraw key s = answer .ok [2#8] s := by
  simp only [withdraw, h, hs, hp, if_neg hg, if_pos hw]
  rfl

theorem withdraw_of_in_flight (hg : p.stage ≠ .passing) (hw : r.withdrawPending = false) :
    withdraw key s = answer .ok [2#8] (settle (cancelJob p
      (updateRecord key (fun q => { q with withdrawPending := true }) s))) := by
  simp only [withdraw, h, hs, hp, if_neg hg, hw, Bool.false_eq_true, if_false, withdrawInFlight,
    findRecord_key h]
  rfl

end InFlight
end Withdraw

/-- The cancel of a job keeps the store and the numbers of the pieces. -/
theorem cancelJob_keeps (p : Piece) (s : State) : (cancelJob p s).store = s.store
    ∧ (cancelJob p s).tracking.pieces.map (fun q => q.number)
      = s.tracking.pieces.map (fun q => q.number) := by
  have hupdate (u : State) : (updatePiece p.number (fun q => { q with job := .cancelled })
      u).tracking.pieces.map (fun q => q.number) = u.tracking.pieces.map (fun q => q.number) := by
    dsimp only [updatePiece, mapPieces]
    rw [List.map_map]
    refine List.map_congr_left fun q _ => ?_
    rw [Function.comp_apply]
    split <;> rfl
  have hquiet : (updatePrinterWait (updatePiece p.number (fun q => { q with job := .cancelled }) s)).store
        = s.store
      ∧ (updatePrinterWait (updatePiece p.number (fun q => { q with job := .cancelled })
        s)).tracking.pieces.map (fun q => q.number) = s.tracking.pieces.map (fun q => q.number) := by
    rw [updatePrinterWait_store, updatePrinterWait_tracking, hupdate]
    exact ⟨rfl, rfl⟩
  have htold : (resolveJob p.number .cancelled (produceCancel p.number s)).store = s.store
      ∧ (resolveJob p.number .cancelled (produceCancel p.number s)).tracking.pieces.map
        (fun q => q.number) = s.tracking.pieces.map (fun q => q.number) := by
    rw [resolveJob_produceCancel, dispatch_store, dispatch_numbers, updatePrinterWait_store,
      updatePrinterWait_tracking, hupdate, produceCancel_carrier]
    exact ⟨rfl, rfl⟩
  cases h : p.job <;> simp only [cancelJob, h]
  case none => exact hquiet
  case due => exact hquiet
  case sent => exact htold
  case accepted => exact htold
  all_goals exact ⟨trivial, trivial⟩

/-- The departure of a record that refers to no plan. -/
theorem depart_of_no_plan {r : Record} (h : r.planRef = none) (s : State) : depart r s = s := by
  simp only [depart, h]

/-- A record freed stays away through its departure and the settling of the line. -/
theorem findRecord_settle_depart {r : Record} {k : Nat} {s : State} (h : findRecord s k = none) :
    findRecord (settle (depart r s)) k = none := by
  have hk : ((settle (depart r s)).store.map (fun q => q.key)).Sublist (s.store.map (fun q => q.key)) :=
    (settle_motion _).keys.trans (depart_step r s).keys
  have absent (u : State) : findRecord u k = none ↔ k ∉ u.store.map (fun q => q.key) := by
    simp [findRecord, List.find?_eq_none]
  rw [absent] at h ⊢
  exact fun hm => h (hk.subset hm)

/-- The job of a piece cancelled without a message, as R100 says, and PRINTER-WAIT examined. -/
def jobCancelled (p : Piece) (u : State) : State :=
  let pieces := u.tracking.pieces.map (fun q => if q.number = p.number then { q with job := .cancelled } else q)
  let waits := pieces.any (fun q => q.waiting && (q.job = .due || q.job = .sent))
  { u with
    tracking := { u.tracking with pieces := pieces }
    holds :=
      { u.holds with causes := { u.holds.causes with printerWait := u.holds.causes.printerWait && waits } } }

theorem cancelJob_of_unsent {p : Piece} (h : p.job = .none ∨ p.job = .due) (s : State) :
    cancelJob p s = jobCancelled p s := by
  rcases h with h | h <;> simp only [cancelJob, h] <;> rw [updatePrinterWait_eq] <;> rfl

theorem cancelJob_of_outstanding {p : Piece} (h : p.job = .sent ∨ p.job = .accepted) (s : State) :
    cancelJob p s = dispatch (jobCancelled p
      { produceCancel p.number s with
        carrier :=
          { (produceCancel p.number s).carrier with
            jobs := s.carrier.jobs.filter (fun k => k ≠ p.number) } }) := by
  rcases h with h | h <;> simp only [cancelJob, h] <;>
    rw [resolveJob_produceCancel, updatePrinterWait_eq] <;> rfl

theorem cancelJob_of_ended {p : Piece} (h : p.job = .printed ∨ p.job = .refused ∨ p.job = .cancelled)
    (s : State) : cancelJob p s = s := by
  rcases h with h | h | h <;> simp only [cancelJob, h]

/-- Settles O33. -/
theorem withdrawByRecordState : Obligations.WithdrawByRecordState := by
  refine ⟨fun key s h => ?_, fun r s => ⟨fun hr => depart_of_no_plan hr s, fun f p o hr hp ho => ?_⟩⟩
  · intro withdraw host
    have hw : withdraw = .next (Machine.withdraw key (emptyLatch s)) := exec_withdraw h
    rw [hw]
    refine ⟨fun hf => ?_, fun r hr => ⟨fun hs => ?_, fun hs p hp hg => ⟨fun hw => ?_, fun hw => ?_⟩,
      fun hs p hp hg => ?_, fun hs => ?_, fun hs => ?_⟩⟩
    · rw [withdraw_of_unknown (s := emptyLatch s) hf]
      rfl
    · intro freed
      have hq : Machine.withdraw key (emptyLatch s)
          = { settle (depart r freed) with host := s.host.answered .ok [1#8] } := by
        rw [withdraw_of_queued (s := emptyLatch s) hr hs, withdrawQueued, findRecord_key hr]
        exact answer_of_host ((settle_motion _).host.trans (depart_step r freed).host)
      rw [hq]
      refine ⟨rfl, findRecord_settle_depart (findRecord_freeRecord_same key s), fun hn hh hd => ?_⟩
      rw [depart_of_no_plan hn, settle_of_still (s := freed) hh hd]
    · rw [withdraw_of_pending (s := emptyLatch s) hr hs hp hg hw]
      rfl
    · intro marked told cancelled answered
      have hm : Machine.withdraw key (emptyLatch s) = answered (cancelJob p marked) := by
        rw [withdraw_of_in_flight (s := emptyLatch s) hr hs hp hg hw]
        exact answer_of_host ((settle_motion _).host.trans (cancelJob_step p marked).host)
      rw [hm]
      refine ⟨fun hj => ?_, fun hj => ?_, fun hj => ?_, _, { r with withdrawPending := true }, rfl, ?_,
        rfl, hs, ?_⟩
      · rw [cancelJob_of_unsent hj]
        rfl
      · rw [cancelJob_of_outstanding hj]
        rfl
      · rw [cancelJob_of_ended hj]
      all_goals
        obtain ⟨hstore, hnumbers⟩ := cancelJob_keeps p marked
        have hne : (cancelJob p marked).tracking.pieces ≠ [] := fun k => by
          rw [k] at hnumbers
          have hmem := List.mem_map_of_mem (f := fun q : Piece => q.number) (List.mem_of_find?_eq_some hp)
          exact List.not_mem_nil (hnumbers ▸ hmem)
        obtain ⟨hs1, ht1⟩ := settle_of_pieces hne
      · calc findRecord (answered (cancelJob p marked)) key
            = (settle (cancelJob p marked)).store.find? (fun q => q.key == key) := rfl
          _ = findRecord (updateRecord key (fun q => { q with withdrawPending := true }) s) key := by
            rw [hs1, hstore]
            rfl
          _ = _ := findRecord_updateRecord_same key (fun q => { q with withdrawPending := true })
            (fun _ => rfl) hr
      · calc (answered (cancelJob p marked)).tracking.pieces.map (fun q => q.number)
            = (settle (cancelJob p marked)).tracking.pieces.map (fun q => q.number) := rfl
          _ = _ := by
            rw [ht1]
            exact hnumbers
    · rw [withdraw_of_passing (s := emptyLatch s) hr hs hp hg]
      rfl
    · rw [withdraw_of_out (s := emptyLatch s) hr hs]
      rfl
    · rw [withdraw_of_exception (s := emptyLatch s) hr hs]
      rfl
  · intro entry fell
    refine ⟨fun hs => ⟨depart_of_waiting hr hp ho hs, depart_of_last_waiting hr hp ho hs⟩,
      depart_of_over hr hp ho, fun n b hs hb => ⟨depart_of_done hr hp ho hs hb, fun hst => ?_⟩⟩
    intro lowered left freed
    refine ⟨depart_of_left hr hp ho hs hb hst, fun hl => ⟨depart_of_emptied hr hp ho hs hb hst hl, ?_⟩⟩
    exact (freeUnclosed_eq (b := b.fall r.nominalMass) .emptied (findBundle_fallen hb)).trans rfl

end Sys2Proof.Machine

/-! PROOF. The results of the windows, MAG-MISS, defects, steps and the opening of a window: O50. -/

namespace Sys2Proof.Machine

/-! ### Defects and steps (R69, R85) -/

section Defect
variable {cause : DefectCause} {station : DefectStation} {p : Piece}

theorem withDefect_of_found (h : Defect.mk cause station ∈ p.defects ∨ Defect.mk cause station ∈ p.overflowed) :
    p.withDefect cause station = p := if_pos h

theorem withDefect_of_room
    (h : ¬(Defect.mk cause station ∈ p.defects ∨ Defect.mk cause station ∈ p.overflowed))
    (hl : p.defects.length < 4) :
    p.withDefect cause station = { p with defects := p.defects ++ [Defect.mk cause station] } := by
  rw [Piece.withDefect, if_neg h, if_pos hl]

theorem withDefect_of_full
    (h : ¬(Defect.mk cause station ∈ p.defects ∨ Defect.mk cause station ∈ p.overflowed))
    (hl : 4 ≤ p.defects.length) :
    p.withDefect cause station =
      { p with
        overflow := if p.overflow < 255 then p.overflow + 1 else p.overflow
        overflowed := p.overflowed ++ [Defect.mk cause station] } := by
  rw [Piece.withDefect, if_neg h, if_neg (Nat.not_lt.mpr hl)]
  rfl

/-- A defect recorded has been found. -/
theorem withDefect_found : Defect.mk cause station ∈ (p.withDefect cause station).defects
    ∨ Defect.mk cause station ∈ (p.withDefect cause station).overflowed := by
  by_cases h : Defect.mk cause station ∈ p.defects ∨ Defect.mk cause station ∈ p.overflowed
  · rw [withDefect_of_found h]
    exact h
  · by_cases hl : p.defects.length < 4
    · rw [withDefect_of_room h hl]
      exact .inl (List.mem_append_right _ (List.mem_singleton_self _))
    · rw [withDefect_of_full h (Nat.not_lt.mp hl)]
      exact .inr (List.mem_append_right _ (List.mem_singleton_self _))

end Defect

/-! ### The result of a window (R164, R165) -/

section Window
variable {w : OpenWindow}

theorem result_of_disabled (h : w.enabled = false) : w.result = .absent := by
  simp [OpenWindow.result, h]

theorem result_of_enabled (h : w.enabled = true) : w.result = .edges w.edges := by
  simp [OpenWindow.result, h]

end Window

/-- The piece of a number changed, as the statement of O50 writes it. -/
def pieceChanged (n : BitVec 16) (f : Piece → Piece) (s : State) : State :=
  { s with
    tracking :=
      { s.tracking with
        pieces := s.tracking.pieces.map (fun q => if q.number = n then f q else q) } }

/-- A piece to which an insert has been delivered. -/
def Piece.given (i : Insert) (q : Piece) : Piece :=
  { q with delivered := q.delivered ||| BitVec.twoPow 6 i.val }

/-- A piece whose thickness has been measured. -/
def Piece.measured (v : Nat) (q : Piece) : Piece := { q with thickness := some v }

section Result
variable {w : OpenWindow} {s : State} {p : Piece} (hw : w.piece.bind (pieceNumbered s) = some p)
include hw

theorem magazineResult_passed (h : w.enabled = false ∨ w.edges = 1) :
    magazineResult w s = pieceChanged p.number (fun q => q.passed .fed) s := by
  cases he : w.enabled
  · simp only [magazineResult, hw, result_of_disabled he]
    rfl
  · have h1 : w.edges = 1 := h.resolve_left (by simp [he])
    simp only [magazineResult, hw, result_of_enabled he, h1]
    rfl

theorem magazineResult_double (he : w.enabled = true) (h : 2 ≤ w.edges) :
    magazineResult w s = pieceChanged p.number (fun q => q.withDefect .magDouble .magazine) s := by
  obtain ⟨k, hk⟩ : ∃ k, w.edges = k + 2 := ⟨w.edges - 2, by omega⟩
  simp only [magazineResult, hw, result_of_enabled he, hk]
  rfl

theorem magazineResult_miss (he : w.enabled = true) (h : w.edges = 0) :
    magazineResult w s = magMiss p s := by
  simp only [magazineResult, hw, result_of_enabled he, h]

theorem insertResult_uncalled {i : Insert} (h : p.version.getLsbD i.val = false) :
    insertResult i w s = s := by
  simp only [insertResult, hw, h, Bool.false_eq_true, if_false]

theorem insertResult_delivered {i : Insert} (hc : p.version.getLsbD i.val = true)
    (h : w.enabled = false ∨ w.edges = 1) : insertResult i w s = pieceChanged p.number
      (fun q => (q.given i).passed .collating) s := by
  have hd : passStep p.number .collating (deliver p.number i s) = pieceChanged p.number
      (fun q => (q.given i).passed .collating) s :=
    updatePiece_updatePiece p.number (Piece.passed .collating) (Piece.given i) (fun _ => rfl) s
  cases he : w.enabled
  · simp only [insertResult, hw, hc, if_true, result_of_disabled he]
    exact hd
  · have h1 : w.edges = 1 := h.resolve_left (by simp [he])
    simp only [insertResult, hw, hc, if_true, result_of_enabled he, h1]
    exact hd

theorem insertResult_double {i : Insert} (hc : p.version.getLsbD i.val = true) (he : w.enabled = true)
    (h : 2 ≤ w.edges) : insertResult i w s = pieceChanged p.number
      (fun q => (q.given i).withDefect .insertDouble (.insert i)) s := by
  obtain ⟨k, hk⟩ : ∃ k, w.edges = k + 2 := ⟨w.edges - 2, by omega⟩
  simp only [insertResult, hw, hc, if_true, result_of_enabled he, hk]
  exact updatePiece_updatePiece p.number (Piece.withDefect .insertDouble (.insert i)) (Piece.given i)
    (fun _ => rfl) s

theorem insertResult_miss {i : Insert} (hc : p.version.getLsbD i.val = true) (he : w.enabled = true)
    (h : w.edges = 0) : insertResult i w s = pieceChanged p.number (fun q =>
      if (insertAt s.planner i.val).required then q.withDefect .insertMiss (.insert i)
      else q.passed .collating) s := by
  simp only [insertResult, hw, hc, if_true, result_of_enabled he, h]
  cases (insertAt s.planner i.val).required <;> rfl

theorem cutResult_passed (h : w.enabled = false ∨ w.edges = 0) :
    cutResult w s = pieceChanged p.number (fun q => q.passed .cut) s := by
  cases he : w.enabled
  · simp only [cutResult, hw, result_of_disabled he]
    rfl
  · have h1 : w.edges = 0 := h.resolve_left (by simp [he])
    simp only [cutResult, hw, result_of_enabled he, h1]
    rfl

theorem cutResult_fault (he : w.enabled = true) (h : 1 ≤ w.edges) :
    cutResult w s = pieceChanged p.number (fun q => q.withDefect .cutFault .cut) s := by
  obtain ⟨k, hk⟩ : ∃ k, w.edges = k + 1 := ⟨w.edges - 1, by omega⟩
  simp only [cutResult, hw, result_of_enabled he, hk]
  rfl

theorem gaugeResult_disabled (he : w.enabled = false) :
    gaugeResult w s = pieceChanged p.number (fun q => q.passed .gauged) s := by
  simp only [gaugeResult, hw, he, Bool.false_eq_true, if_false]
  rfl

theorem gaugeResult_enabled (he : w.enabled = true) :
    gaugeResult w s = gaugeJudge p s.inputs.gauge s := by
  simp only [gaugeResult, hw, he, if_true]

end Result

/-! The gauge judges the measured value (R118). -/

section Gauge
variable {p : Piece} {v : Nat} {s : State}

theorem gaugeJudge_low (h : v + s.diverter.tolerance < thicknessOf s.planner p.delivered) :
    gaugeJudge p v s
      = pieceChanged p.number (fun q => (q.measured v).withDefect .thickLow .gauge) s := by
  simp only [gaugeJudge, if_pos h]
  exact updatePiece_updatePiece p.number (Piece.withDefect .thickLow .gauge) (Piece.measured v)
    (fun _ => rfl) s

theorem gaugeJudge_high (h : thicknessOf s.planner p.delivered + s.diverter.tolerance < v) :
    gaugeJudge p v s
      = pieceChanged p.number (fun q => (q.measured v).withDefect .thickHigh .gauge) s := by
  have hl : ¬ v + s.diverter.tolerance < thicknessOf s.planner p.delivered := by omega
  simp only [gaugeJudge, if_neg hl, if_pos h]
  exact updatePiece_updatePiece p.number (Piece.withDefect .thickHigh .gauge) (Piece.measured v)
    (fun _ => rfl) s

theorem gaugeJudge_fit (hl : thicknessOf s.planner p.delivered ≤ v + s.diverter.tolerance)
    (hh : v ≤ thicknessOf s.planner p.delivered + s.diverter.tolerance) :
    gaugeJudge p v s = pieceChanged p.number (fun q => (q.measured v).passed .gauged) s := by
  simp only [gaugeJudge, if_neg (Nat.not_lt.mpr hl), if_neg (Nat.not_lt.mpr hh)]
  exact updatePiece_updatePiece p.number (Piece.passed .gauged) (Piece.measured v) (fun _ => rfl) s

theorem gaugeJudge_units (p : Piece) (v : Nat) (s : State) : (gaugeJudge p v s).units = s.units := by
  by_cases hl : v + s.diverter.tolerance < thicknessOf s.planner p.delivered
  · rw [gaugeJudge_low hl]; rfl
  · by_cases hh : thicknessOf s.planner p.delivered + s.diverter.tolerance < v
    · rw [gaugeJudge_high hh]; rfl
    · rw [gaugeJudge_fit (Nat.not_lt.mp hl) (Nat.not_lt.mp hh)]; rfl

end Gauge

/-! ### MAG-MISS (R78, R92, R101) -/

/-- A piece gone from the table with its job, with PRINTER-WAIT examined. -/
def pieceRemoved (n : BitVec 16) (u : State) : State :=
  let pieces := u.tracking.pieces.filter (fun q => q.number ≠ n)
  { u with
    tracking := { u.tracking with pieces := pieces }
    carrier := { u.carrier with jobs := u.carrier.jobs.filter (fun j => j ≠ n) }
    verify := { u.verify with previous := if u.verify.previous = some n then none else u.verify.previous }
    holds :=
      { u.holds with
        causes :=
          { u.holds.causes with
            printerWait := u.holds.causes.printerWait
              && pieces.any (fun q => q.waiting && (q.job = .due || q.job = .sent)) } } }

theorem updatePrinterWait_removePiece (n : BitVec 16) (s : State) :
    updatePrinterWait (removePiece n s) = pieceRemoved n s := by
  rw [updatePrinterWait_eq]
  rfl

theorem removeWithJob_eq (p : Piece) (s : State) : removeWithJob p s =
    if p.job = .sent ∨ p.job = .accepted then dispatch (pieceRemoved p.number (produceCancel p.number s))
    else pieceRemoved p.number s := by
  cases h : p.job <;> simp [removeWithJob, h, updatePrinterWait_removePiece]

theorem removeWithJob_keeps (p : Piece) (s : State) : (removeWithJob p s).store = s.store
    ∧ (removeWithJob p s).queue = s.queue ∧ (removeWithJob p s).units = s.units
    ∧ (removeWithJob p s).tracking.pieces.map (fun q => q.number)
      = (s.tracking.pieces.filter (fun q => q.number ≠ p.number)).map (fun q => q.number) := by
  rw [removeWithJob_eq]
  split
  · refine ⟨?_, ?_, ?_, ?_⟩
    · rw [dispatch_eq, produceCancel_carrier]; rfl
    · rw [dispatch_eq, produceCancel_carrier]; rfl
    · rw [dispatch_eq, produceCancel_carrier]; rfl
    · rw [dispatch_numbers, produceCancel_carrier]; rfl
  · exact ⟨rfl, rfl, rfl, rfl⟩

theorem pieceNumbered_eq_none {s : State} {n : BitVec 16} :
    pieceNumbered s n = none ↔ n ∉ s.tracking.pieces.map (fun q => q.number) := by
  simp [pieceNumbered, List.find?_eq_none]

theorem pieceNumbered_removeWithJob (p : Piece) (s : State) :
    pieceNumbered (removeWithJob p s) p.number = none := by
  rw [pieceNumbered_eq_none, (removeWithJob_keeps p s).2.2.2]
  simp

theorem requeue_eq (k : Nat) (m : Kind) (s : State) : requeue k m s =
    { s with
      store := s.store.map (fun q => if q.key = k then { q with state := .queued, kind := m } else q)
      queue :=
        { s.queue with
          order := s.queue.order.takeWhile (fun j => !isNormal s j)
            ++ k :: s.queue.order.dropWhile (fun j => !isNormal s j) } } := rfl

section MagMiss
variable {p : Piece} {s : State}

theorem magMiss_tracking (p : Piece) (s : State) :
    (magMiss p s).tracking = (removeWithJob p s).tracking := by
  unfold magMiss
  dsimp only
  split
  · rfl
  · split
    · exact (depart_table _ _).tracking
    · rfl

theorem magMiss_units (p : Piece) (s : State) : (magMiss p s).units = s.units := by
  refine Eq.trans ?_ (removeWithJob_keeps p s).2.2.1
  unfold magMiss
  dsimp only
  split
  · rfl
  · split
    · exact (depart_table _ _).units
    · rfl

theorem magMiss_returned {r : Record} (hr : findRecord s p.key = some r) (hw : r.withdrawPending = false) :
    magMiss p s =
      { removeWithJob p s with
        store := s.store.map (fun q =>
          if q.key = p.key then { q with state := .queued, kind := .return } else q)
        queue :=
          { s.queue with
            order := s.queue.order.takeWhile (fun j => !isNormal s j)
              ++ p.key :: s.queue.order.dropWhile (fun j => !isNormal s j) } } := by
  obtain ⟨hstore, hqueue, -, -⟩ := removeWithJob_keeps p s
  have hn : isNormal (removeWithJob p s) = isNormal s := by
    funext k
    rw [isNormal, isNormal, findRecord, findRecord, hstore]
  simp only [magMiss, hr, hw, Bool.false_eq_true, if_false]
  rw [requeue_eq, hstore, hqueue, hn]

theorem magMiss_withdrawn {r : Record} (hr : findRecord s p.key = some r) (hw : r.withdrawPending = true) :
    magMiss p s = depart r
      { removeWithJob p s with
        store := s.store.filter (fun q => q.key ≠ p.key)
        queue := { s.queue with order := s.queue.order.filter (fun k => k ≠ p.key) } } := by
  obtain ⟨hstore, hqueue, -, -⟩ := removeWithJob_keeps p s
  simp only [magMiss, hr, hw, if_true]
  rw [freeRecord, dequeue]
  dsimp only
  rw [hstore, hqueue]

end MagMiss

/-! ### Results without a piece -/

theorem deliverResult_of_no_piece {w : OpenWindow} {s : State} (h : w.piece.bind (pieceNumbered s) = none)
    (u : Nat) : deliverResult u w s = s := by
  unfold deliverResult
  split
  case h_1 => simp only [magazineResult, h]
  case h_8 => simp only [cutResult, h]
  case h_9 => simp only [gaugeResult, h]
  case h_10 => rfl
  all_goals simp only [insertResult, h]

theorem insertResult_units (i : Insert) (w : OpenWindow) (s : State) :
    (insertResult i w s).units = s.units := by
  cases hw : w.piece.bind (pieceNumbered s) with
  | none => simp only [insertResult, hw]
  | some p =>
    cases hc : p.version.getLsbD i.val
    · rw [insertResult_uncalled hw hc]
    · by_cases h : w.enabled = false ∨ w.edges = 1
      · rw [insertResult_delivered hw hc h]; rfl
      · obtain ⟨he, h1⟩ := not_or.mp h
        by_cases h0 : w.edges = 0
        · rw [insertResult_miss hw hc (by simpa using he) h0]; rfl
        · rw [insertResult_double hw hc (by simpa using he) (by omega)]; rfl

/-- The result of a window leaves the timing units alone. -/
theorem deliverResult_units (u : Nat) (w : OpenWindow) (s : State) :
    (deliverResult u w s).units = s.units := by
  cases hw : w.piece.bind (pieceNumbered s) with
  | none => rw [deliverResult_of_no_piece hw]
  | some p =>
    unfold deliverResult
    split
    case h_1 =>
      by_cases h : w.enabled = false ∨ w.edges = 1
      · rw [magazineResult_passed hw h]; rfl
      · obtain ⟨he, h1⟩ := not_or.mp h
        by_cases h0 : w.edges = 0
        · rw [magazineResult_miss hw (by simpa using he) h0, magMiss_units]
        · rw [magazineResult_double hw (by simpa using he) (by omega)]; rfl
    case h_8 =>
      by_cases h : w.enabled = false ∨ w.edges = 0
      · rw [cutResult_passed hw h]; rfl
      · obtain ⟨he, h1⟩ := not_or.mp h
        rw [cutResult_fault hw (by simpa using he) (by omega)]; rfl
    case h_9 =>
      cases he : w.enabled
      · rw [gaugeResult_disabled hw he]; rfl
      · rw [gaugeResult_enabled hw he, gaugeJudge_units]
    case h_10 => rfl
    all_goals exact insertResult_units _ w s

/-! ### The opening of a window (R164, R166) -/

section Opening
variable {u : Nat} {s : State} {t : TimingUnit} (ht : s.units[u]? = some t)
include ht

theorem closeWindow_of_none (hw : t.window = none) : closeWindow u s = s := by
  simp only [closeWindow, unitAt_of_getElem? ht, hw]

theorem modify_eq_set_of_getElem? (f : TimingUnit → TimingUnit) :
    s.units.modify u f = s.units.set u (f t) := by
  refine List.ext_getElem? fun j => ?_
  have hlt : u < s.units.length := (List.getElem?_eq_some_iff.mp ht).1
  rw [List.getElem?_modify, List.getElem?_set]
  by_cases hj : u = j
  · subst hj
    rw [if_pos rfl, if_pos hlt, ht]
    simp
  · simp [hj]

theorem openWindow_of_none (hw : t.window = none) : openWindow u s =
    { s with
      units := s.units.set u
        { t with
          opened := true
          window := some
            { pitch := s.line.pitch
              enabled := t.settings.enable
              close := t.effOff
              edges := 0
              piece := ((unitStation s.geometry u).bind (pieceAt s)).map (fun p => p.number) } } } := by
  rw [openWindow, closeWindow_of_none ht hw]
  dsimp only [updateUnit]
  rw [modify_eq_set_of_getElem? ht]

theorem closeWindow_of_some {w : OpenWindow} (hw : t.window = some w) : closeWindow u s =
    deliverResult u w { s with units := s.units.set u { t with window := none } } := by
  simp only [closeWindow, unitAt_of_getElem? ht, hw, updateUnit]
  rw [modify_eq_set_of_getElem? ht]

theorem openWindow_of_some {w : OpenWindow} (hw : t.window = some w) : openWindow u s =
    openWindow u (deliverResult u w { s with units := s.units.set u { t with window := none } }) := by
  have hclosed := closeWindow_of_some ht hw
  have hunit : (deliverResult u w { s with units := s.units.set u { t with window := none } }).units[u]?
      = some { t with window := none } := by
    rw [deliverResult_units]
    exact List.getElem?_set_self (List.getElem?_eq_some_iff.mp ht).1
  conv_rhs => rw [openWindow, closeWindow_of_none hunit rfl]
  rw [openWindow, hclosed]

end Opening

/-! ### The stations of the windows (section 8.1) -/

theorem unitStation_of_insert {g : Geometry} (hg : g.isSet = true) {i : Nat} (hi : i < 6) :
    unitStation g (i + 8) = if g.fitted.getLsbD i then g.offsets[i]? else none := by
  interval_cases i <;> rw [unitStation, if_pos hg] <;> rfl

/-- Settles O50. -/
theorem stationResultsAreJudged : Obligations.StationResultsAreJudged := by
  unfold Obligations.StationResultsAreJudged
  refine ⟨fun w s p hpiece => ?results, fun w s hw u => deliverResult_of_no_piece (by rw [hw]; rfl) u,
    fun cause station p => ?defect, fun stage p => ?step, fun u s t hu ht => ?opening, fun g => ?station,
    fun s => ?wrap⟩
  case results =>
    intro changed
    have hchanged (f : Piece → Piece) : pieceChanged p.number f s = changed f := rfl
    refine ⟨fun hn u => deliverResult_of_no_piece (by rw [hpiece]; exact hn) u, fun hp => ?_⟩
    have hw : w.piece.bind (pieceNumbered s) = some p := by rw [hpiece]; exact hp
    refine ⟨fun h => magazineResult_passed hw h, fun he h => magazineResult_double hw he h,
      fun he h => ?miss, fun i => ?insert, fun h => cutResult_passed hw h,
      fun he h => cutResult_fault hw he h, fun he => gaugeResult_disabled hw he, fun he => ?gauge⟩
    case miss =>
      intro waits removed base front
      have hm : deliverResult 1 w s = magMiss p s := magazineResult_miss hw he h
      have hbase : removeWithJob p s = base := removeWithJob_eq p s
      rw [hm]
      refine ⟨?_, fun r hr => ⟨fun hwp => ?_, fun hwp => ?_⟩⟩
      · rw [pieceNumbered, magMiss_tracking]
        exact pieceNumbered_removeWithJob p s
      · rw [magMiss_returned hr hwp, hbase]
        rfl
      · rw [magMiss_withdrawn hr hwp, hbase]
    case insert =>
      intro given station
      have hstation : deliverResult station w s = insertResult i w s := by
        fin_cases i <;> rfl
      rw [hstation]
      refine ⟨insertResult_uncalled hw, fun hc => ⟨fun h => insertResult_delivered hw hc h,
        fun he h => insertResult_double hw hc he h, fun he h hr => ?_, fun he h hr => ?_⟩⟩
      · rw [insertResult_miss hw hc he h, hr]
        rfl
      · rw [insertResult_miss hw hc he h, hr]
        rfl
    case gauge =>
      intro measured e tol
      have hj : deliverResult 16 w s = gaugeJudge p s.inputs.gauge s := gaugeResult_enabled hw he
      rw [hj]
      exact ⟨gaugeJudge_low, gaugeJudge_high, gaugeJudge_fit⟩
  case defect =>
    exact ⟨withDefect_of_found, withDefect_of_room, withDefect_of_full, withDefect_of_found withDefect_found⟩
  case step =>
    intro place
    rw [Piece.passed, Stage.rank_eq_idxOf, Stage.rank_eq_idxOf]
  case opening => exact ⟨openWindow_of_none ht, fun w hw => openWindow_of_some ht hw⟩
  case station =>
    refine ⟨fun hg u => ?_, fun hg => ⟨?_, ?_, ?_, fun i hi => unitStation_of_insert hg hi⟩⟩
    · simp [unitStation, hg]
    all_goals rw [unitStation, if_pos hg]
  case wrap =>
    refine ⟨fun h => ?_, fun p h => ?_⟩
    · simp only [wrapArrival, h]
    · simp only [wrapArrival, h]
      rfl

end Sys2Proof.Machine

/-! PROOF. What the look-ahead, the claims, the planning of births and the drain leave alone (`TableStep`):
the pieces, the units that work on them, and every record that is not queued. -/

namespace Sys2Proof.Machine

theorem TableStep.foldl {α : Type} (f : State → α → State) (h : ∀ s a, TableStep s (f s a))
    (l : List α) : ∀ s, TableStep s (l.foldl f s) := by
  induction l with
  | nil => exact TableStep.refl
  | cons a l ih => exact fun s => (h s a).trans (ih _)

/-! ### Pockets and claims (R134 to R141) -/

theorem clearRequest_table (s : State) : TableStep s (clearRequest s) := {}

theorem raisePocketWait_table (s : State) : TableStep s (raisePocketWait s) := {}

theorem reserve_table (k : PocketId) (n : Nat) (s : State) : TableStep s (reserve k n s) := by
  unfold reserve
  exact TableStep.ite _ (TableStep.trans (t := updateBundle n (fun b => { b with pocket := some k })
    { s with stacker := { s.stacker with lastReserved := some k } }) {} (clearRequest_table _)) {}

theorem lookAheadFor_table (n : Nat) (s : State) : TableStep s (lookAheadFor n s) := by
  unfold lookAheadFor
  split
  · exact .refl s
  · split
    · split
      · exact reserve_table _ _ s
      · dsimp only
        split
        next m _ =>
          have h : TableStep s
              (closeBundle m .forced { s with stacker := { s.stacker with request := some n } }) :=
            TableStep.trans (t := { s with stacker := { s.stacker with request := some n } }) {}
              (closeBundle_table _ _ _)
          exact TableStep.ite _ (h.trans (raisePocketWait_table _)) h
        next =>
          exact TableStep.ite _ (TableStep.trans
            (t := { s with stacker := { s.stacker with request := some n } }) {}
            (raisePocketWait_table _)) {}
    · exact .refl s

theorem lookAheadAtMark_table (s : State) : TableStep s (lookAheadAtMark s) := by
  unfold lookAheadAtMark
  split
  · exact .refl s
  · split
    · exact .refl s
    · exact lookAheadFor_table _ s

theorem forceForRequest_table (n : Nat) (s : State) : TableStep s (forceForRequest n s) :=
  TableStep.ite _ ((closeBundle_table n _ s).trans (raisePocketWait_table _)) (.refl s)

theorem displace_table (k : PocketId) (s : State) : TableStep s (displace k s) := by
  unfold displace
  split
  · exact .refl s
  next b _ =>
    exact TableStep.ite _ (TableStep.ite _ (closeBundle_table _ _ s) (TableStep.ite _
      (closeBundle_table _ _ s) ((updateBundle_table b.number _ s).trans
        (forceForRequest_table _ _)))) (.refl s)

theorem endClaim_table (n : Nat) (s : State) : TableStep s (endClaim n s) := by
  unfold endClaim
  split
  · exact .refl s
  · exact TableStep.ite _ ((updateBundle_table n _ s).trans (forceForRequest_table _ _)) (.refl s)

theorem holdExpiryTest_table (s : State) : TableStep s (holdExpiryTest s) := by
  refine TableStep.foldl _ (fun s n => ?_) _ s
  unfold expireBundle
  split
  · exact .refl s
  · exact TableStep.ite _ (closeBundle_table _ _ s) (.refl s)

/-! ### Plans and bundles of the births (R34 to R38) -/

theorem setPlan_table (i : Nat) (p : Option Plan) (s : State) : TableStep s (setPlan i p s) := {}

theorem finaliseOrdinal_table (f : PlanRef) (s : State) : TableStep s (finaliseOrdinal f s) := by
  unfold finaliseOrdinal
  split
  · exact .refl s
  · have hf := updateOrdinal_table f (fun o => { o with final := true }) s
    split
    next n _ =>
      exact (hf.trans ((updateBundle_table n _ _).trans (completionTest_table n _))).trans
        (retirementTest_table _ _)
    all_goals exact hf.trans (retirementTest_table _ _)

theorem finaliseCurrent_table (i : Nat) (s : State) : TableStep s (finaliseCurrent i s) := by
  unfold finaliseCurrent
  split
  · exact .refl s
  · split
    · exact .refl s
    · exact TableStep.ite _ (finaliseOrdinal_table _ s) (.refl s)

theorem finaliseOthers_table (route : Nat) (s : State) : TableStep s (finaliseOthers route s) :=
  TableStep.foldl _ (fun s i => TableStep.ite _ (finaliseCurrent_table i s) (.refl s)) _ s

theorem closeToGrowth_table (i : Nat) (s : State) : TableStep s (closeToGrowth i s) := by
  unfold closeToGrowth
  split
  · exact .refl s
  · exact (setPlan_table i _ s).trans (finaliseCurrent_table i _)

theorem updateRecord_table {k : Nat} {f : Record → Record} (h : ∀ r, (f r).SameBut r) (s : State) :
    TableStep s (updateRecord k f s) :=
  mapRecords_table (fun r => by
    split
    · exact h r
    · rfl) s

theorem assignRefs_table (i : Nat) (gs : List (List Record)) : ∀ (o : Nat) (s : State),
    TableStep s (assignRefs i o gs s) := by
  induction gs with
  | nil => exact fun _ s => .refl s
  | cons g gs ih => exact fun o s => (mapRecords_table (fun r => by split <;> rfl) s).trans (ih _ _)

theorem makePlan_table (i : Nat) (r : Record) (s : State) : TableStep s (makePlan i r s) :=
  TableStep.ite _ ((setPlan_table i _ s).trans (assignRefs_table i _ 0 _))
    ((setPlan_table i _ s).trans (updateRecord_table (by exact fun _ => rfl) _))

theorem joinOrdinal_table (f : PlanRef) (r : Record) (s : State) : TableStep s (joinOrdinal f r s) := by
  have hj := updateOrdinal_table f (fun o => { o with count := o.count + 1, mass := o.mass + r.nominalMass }) s
  unfold joinOrdinal
  dsimp only
  split
  · exact .refl s
  · split
    · exact hj.trans (updateBundle_table _ _ _)
    all_goals exact hj

theorem openOrdinal_table (i : Nat) (p : Plan) (r : Record) (s : State) :
    TableStep s (openOrdinal i p r s) := by
  unfold openOrdinal
  dsimp only
  split
  · exact setPlan_table i _ s
  · exact TableStep.ite _ ((setPlan_table i _ s).trans (finaliseOrdinal_table _ _)) (setPlan_table i _ s)

theorem allocateBundle_table (f : PlanRef) (route : Nat) (s : State) :
    TableStep s (allocateBundle f route s) := by
  unfold allocateBundle
  split
  · exact .refl s
  · refine TableStep.trans (TableStep.trans ?_ (updateOrdinal_table f _ _))
      (mapRecords_table (fun r => by split <;> rfl) _)
    exact {}

theorem takeRef_table (f : PlanRef) (r : Record) (s : State) : TableStep s (takeRef f r s) :=
  updateRecord_table (by exact fun _ => rfl) s

theorem finaliseIfEnd_table (f : PlanRef) (r : Record) (s : State) : TableStep s (finaliseIfEnd f r s) :=
  TableStep.ite _ (finaliseOrdinal_table f s) (.refl s)

/-! ### Drain completion (R43, R155) -/

theorem retirePlan_table (i : Nat) (s : State) : TableStep s (retirePlan i s) :=
  (setPlan_table i none s).trans (mapRecords_table (Record.withoutPlan_same i) _)

theorem finaliseAtDrain_table (s : State) : TableStep s (finaliseAtDrain s) := by
  unfold finaliseAtDrain
  refine TableStep.trans ?_ (TableStep.foldl _ (fun s i => retirePlan_table i s) _ _)
  exact {}

theorem drainBundle_table (s : State) (n : Nat) : TableStep s (drainBundle s n) := by
  unfold drainBundle
  split
  · exact .refl s
  · split
    · exact TableStep.ite _ (closeBundle_table _ _ s) (closeBundle_table _ _ s)
    · exact TableStep.ite _ (closeBundle_table _ _ s) (closeBundle_table _ _ s)
    · exact freeUnclosed_table _ _ s
    · exact .refl s
    · exact .refl s

theorem drainBlocks_table (s : State) : TableStep s (drainBlocks s) :=
  (TableStep.ite _ ((finaliseAtDrain_table s).trans (clearRequest_table _))
    (finaliseAtDrain_table s)).trans (TableStep.foldl _ drainBundle_table _ _)

end Sys2Proof.Machine

/-! PROOF. The timing units at a phase reached, between counts, and through the events of a mark: O49. -/

namespace Sys2Proof.Machine

/-! ### One unit of the list -/

theorem unitAt_updateUnit_other {s : State} {u n : Nat} (f : TimingUnit → TimingUnit) (h : n ≠ u) :
    unitAt (updateUnit u f s) n = unitAt s n := by
  simp [unitAt, List.getD_eq_getElem?_getD, h.symm]

theorem unitAt_of_units {s t : State} (h : t.units = s.units) (n : Nat) : unitAt t n = unitAt s n := by
  rw [unitAt, unitAt, h]

theorem unitAt_of_le {s : State} {n : Nat} (h : s.units.length ≤ n) : unitAt s n = TimingUnit.initial := by
  rw [unitAt, List.getD_eq_getElem?_getD, List.getElem?_eq_none h]
  rfl

theorem length_updateUnit (u : Nat) (f : TimingUnit → TimingUnit) (s : State) :
    (updateUnit u f s).units.length = s.units.length := by simp

theorem getElem?_units {s : State} {n : Nat} (h : n < s.units.length) :
    s.units[n]? = some (unitAt s n) := by
  rw [unitAt, List.getD_eq_getElem?_getD, List.getElem?_eq_getElem h]
  rfl

/-- Units of a state that no act on another unit changes. -/
theorem nonePending_iff (s : State) : NonePending s ↔ ∀ n, (unitAt s n).pending = none := by
  refine ⟨fun h n => h.unitAt n, fun h u hu => ?_⟩
  obtain ⟨n, hn, rfl⟩ := List.mem_iff_getElem.mp hu
  have := h n
  rwa [unitAt_of_getElem? (List.getElem?_eq_getElem hn)] at this

/-! ### Acts of the units in ascending number -/

/-- What acts on one unit alone after another leave of each. -/
theorem foldl_unit {f : State → Nat → State} (hlen : ∀ s n, (f s n).units.length = s.units.length)
    (hother : ∀ s n j, j ≠ n → unitAt (f s n) j = unitAt s j) (s : State) (m : Nat) :
    ((List.range m).foldl f s).units.length = s.units.length
      ∧ (∀ j, m ≤ j → unitAt ((List.range m).foldl f s) j = unitAt s j)
      ∧ ∀ n, n < m → ∃ k, k ≤ n ∧ unitAt ((List.range k).foldl f s) n = unitAt s n
        ∧ ((List.range k).foldl f s).units.length = s.units.length
        ∧ unitAt ((List.range m).foldl f s) n = unitAt (f ((List.range k).foldl f s) n) n := by
  induction m with
  | zero => exact ⟨rfl, fun _ _ => rfl, fun n hn => absurd hn (Nat.not_lt_zero n)⟩
  | succ m ih =>
    obtain ⟨hl, hj, hn⟩ := ih
    rw [List.range_succ, List.foldl_append, List.foldl_cons, List.foldl_nil]
    refine ⟨(hlen _ m).trans hl, fun j h => ?_, fun n h => ?_⟩
    · rw [hother _ m j (by omega), hj j (by omega)]
    · rcases Nat.lt_succ_iff_lt_or_eq.mp h with h | rfl
      · obtain ⟨k, hk, h1, h2, h3⟩ := hn n h
        exact ⟨k, hk, h1, h2, by rw [hother _ m n (by omega), h3]⟩
      · exact ⟨n, le_refl n, hj n (le_refl n), hl, rfl⟩

/-! ### Windows that close and open, and pulses -/

theorem closeWindow_units (u : Nat) (s : State) :
    (closeWindow u s).units = (updateUnit u (fun t => { t with window := none }) s).units := by
  by_cases hu : u < s.units.length
  · cases hw : (unitAt s u).window with
    | none =>
      rw [closeWindow_of_none (getElem?_units hu) hw]
      refine (List.ext_getElem? fun j => ?_)
      rw [updateUnit_units_eq, List.getElem?_modify]
      split
      · next hj =>
        subst hj
        rw [getElem?_units hu]
        generalize unitAt s u = t at hw
        obtain ⟨⟩ := t
        cases hw
        rfl
      · simp
    | some w =>
      rw [closeWindow_of_some (getElem?_units hu) hw, deliverResult_units,
        updateUnit_units_eq, modify_eq_set_of_getElem? (getElem?_units hu)]
  · have hn : unitAt s u = TimingUnit.initial := unitAt_of_le (Nat.not_lt.mp hu)
    have hm : s.units.modify u (fun t => { t with window := none }) = s.units :=
      List.modify_eq_self (Nat.not_lt.mp hu)
    rw [closeWindow, hn, updateUnit_units_eq, hm]
    rfl

theorem unitAt_closeWindow (u : Nat) (s : State) :
    unitAt (closeWindow u s) u = { unitAt s u with window := none } := by
  rw [unitAt_of_units (closeWindow_units u s)]
  by_cases hu : u < s.units.length
  · rw [unitAt_updateUnit _ hu]
  · rw [unitAt_of_le (by rw [length_updateUnit]; exact Nat.not_lt.mp hu),
      unitAt_of_le (Nat.not_lt.mp hu)]
    rfl

theorem unitAt_closeWindow_other {u n : Nat} (h : n ≠ u) (s : State) :
    unitAt (closeWindow u s) n = unitAt s n := by
  rw [unitAt_of_units (closeWindow_units u s), unitAt_updateUnit_other _ h]

theorem length_closeWindow (u : Nat) (s : State) : (closeWindow u s).units.length = s.units.length := by
  rw [closeWindow_units, length_updateUnit]

/-- A window that an act opens, for a unit as the act finds it (R164). -/
structure OpensFor (pitch : BitVec 32) (t : TimingUnit) (w : OpenWindow) : Prop where
  pitch : w.pitch = pitch
  enabled : w.enabled = t.settings.enable
  close : w.close = t.effOff
  edges : w.edges = 0

theorem unitAt_openWindow {u : Nat} {s : State} (hu : u < s.units.length) :
    ∃ w, unitAt (openWindow u s) u = { unitAt s u with opened := true, window := some w }
      ∧ OpensFor s.line.pitch (unitAt s u) w := by
  rw [openWindow]
  dsimp only
  rw [unitAt_updateUnit _ (by rw [length_closeWindow]; exact hu), unitAt_closeWindow,
    (closeWindow_step u s).line]
  exact ⟨_, rfl, rfl, rfl, rfl, rfl⟩

theorem unitAt_openWindow_other {u n : Nat} (h : n ≠ u) (s : State) :
    unitAt (openWindow u s) n = unitAt s n := by
  rw [openWindow]
  exact (unitAt_updateUnit_other _ h).trans (unitAt_closeWindow_other h s)

theorem length_openWindow (u : Nat) (s : State) : (openWindow u s).units.length = s.units.length := by
  rw [openWindow]
  rw [length_updateUnit, length_closeWindow]

/-! ### The act of a phase on one unit (R159, R162, R164) -/

/-- What the act of a phase `p` makes of unit `n` (R162, R163, R164, R166). -/
def UnitActs (n p : Nat) (pitch : BitVec 32) (before now : TimingUnit) : Prop :=
  let ended := if before.pulse = some p then none else before.pulse
  (isPulse n = true →
      (before.ordered = true → before.effOn = p →
        (before.settings.enable = true →
          now = { before with ordered := false, pulse := some before.effOff })
        ∧ (before.settings.enable = false → now = { before with ordered := false, pulse := ended }))
      ∧ (before.ordered = false ∨ before.effOn ≠ p → now = { before with pulse := ended }))
    ∧ (isPulse n = false →
      (before.opened = false → before.effOn = p →
        ∃ w, now = { before with opened := true, window := some w } ∧ w.pitch = pitch
          ∧ w.enabled = before.settings.enable ∧ w.close = before.effOff ∧ w.edges = 0)
      ∧ (before.opened = true ∨ before.effOn ≠ p → now =
        { before with
          window := if before.window.any (fun w => w.close == p) then none else before.window }))

theorem endPulse_eq (p : Nat) (t : TimingUnit) :
    t.endPulse p = { t with pulse := if t.pulse = some p then none else t.pulse } := by
  unfold TimingUnit.endPulse
  split <;> rfl

theorem pulseAt_eq (p : Nat) (t : TimingUnit) : TimingUnit.pulseAt p t =
    let ended := if t.pulse = some p then none else t.pulse
    if t.ordered = true ∧ t.effOn = p then
      { t with ordered := false, pulse := if t.settings.enable = true then some t.effOff else ended }
    else { t with pulse := ended } := by
  rw [TimingUnit.pulseAt, endPulse_eq]
  by_cases h : t.ordered = true ∧ t.effOn = p
  · rw [if_pos (by simp [h]), if_pos h, TimingUnit.beginOrder]
    cases t.settings.enable <;> rfl
  · rw [if_neg (by simpa using h), if_neg h]

theorem unitActs_pulse {n : Nat} (hn : isPulse n = true) (p : Nat) (pitch : BitVec 32) (t : TimingUnit) :
    UnitActs n p pitch t (TimingUnit.pulseAt p t) := by
  rw [pulseAt_eq]
  refine ⟨fun _ => ⟨fun ho hp => ⟨fun he => ?_, fun he => ?_⟩, fun h => ?_⟩,
    fun h => absurd (hn.symm.trans h) (by decide)⟩
  · simp [ho, hp, he]
  · simp [ho, hp, he]
  · rw [if_neg fun ⟨h1, h2⟩ => h.elim (fun k => absurd (h1.symm.trans k) (by decide)) (fun k => k h2)]

theorem unitAt_windowOpenAt_other {u n : Nat} (h : n ≠ u) (p : Nat) (s : State) :
    unitAt (windowOpenAt u p s) n = unitAt s n := by
  unfold windowOpenAt
  split
  · exact unitAt_openWindow_other h s
  · rfl

theorem length_windowOpenAt (u p : Nat) (s : State) :
    (windowOpenAt u p s).units.length = s.units.length := by
  unfold windowOpenAt
  split
  · exact length_openWindow u s
  · rfl

theorem unitAt_windowCloseAt (u p : Nat) (s : State) : unitAt (windowCloseAt u p s) u =
    { unitAt s u with
      window := if (unitAt s u).window.any (fun w => w.close == p) then none
        else (unitAt s u).window } := by
  unfold windowCloseAt
  split
  · exact unitAt_closeWindow u s
  · rfl

theorem unitAt_windowCloseAt_other {u n : Nat} (h : n ≠ u) (p : Nat) (s : State) :
    unitAt (windowCloseAt u p s) n = unitAt s n := by
  unfold windowCloseAt
  split
  · exact unitAt_closeWindow_other h s
  · rfl

theorem length_windowCloseAt (u p : Nat) (s : State) :
    (windowCloseAt u p s).units.length = s.units.length := by
  unfold windowCloseAt
  split
  · exact length_closeWindow u s
  · rfl

/-- The window of a unit at a phase reached: it opens at its open phase, once. -/
theorem windowOpenAt_opens {n p : Nat} {s : State} (hn : n < s.units.length)
    (ho : (unitAt s n).opened = false) (hp : (unitAt s n).effOn = p) :
    ∃ w, unitAt (windowOpenAt n p s) n = { unitAt s n with opened := true, window := some w }
      ∧ OpensFor s.line.pitch (unitAt s n) w := by
  rw [windowOpenAt, if_pos (by simp [ho, hp])]
  exact unitAt_openWindow hn

theorem windowOpenAt_still {n p : Nat} {s : State}
    (h : (unitAt s n).opened = true ∨ (unitAt s n).effOn ≠ p) : windowOpenAt n p s = s := by
  refine if_neg ?_
  rcases h with h | h <;> simp [h]

theorem unitActs_unitPhase {n p : Nat} {s : State} (hn : n < s.units.length) :
    UnitActs n p s.line.pitch (unitAt s n) (unitAt (unitPhase p s n) n) := by
  cases hk : isPulse n
  · rw [unitPhase, if_neg (by simp [hk])]
    refine ⟨fun h => absurd (hk.symm.trans h) (by decide), fun _ => ⟨fun ho hp => ?_, fun h => ?_⟩⟩
    · obtain ⟨w, hw, h1, h2, h3, h4⟩ := windowOpenAt_opens (n := n) (p := p) (s := windowCloseAt n p s)
        (by rw [length_windowCloseAt]; exact hn) (by rw [unitAt_windowCloseAt]; exact ho)
        (by rw [unitAt_windowCloseAt]; exact hp)
      rw [(windowCloseAt_step n p s).line] at h1
      rw [unitAt_windowCloseAt] at hw h2 h3
      exact ⟨w, hw, h1, h2, h3, h4⟩
    · rw [windowOpenAt_still (by rw [unitAt_windowCloseAt]; exact h), unitAt_windowCloseAt]
  · rw [unitPhase, if_pos hk, unitAt_updateUnit _ hn]
    exact unitActs_pulse hk p _ _

theorem unitAt_unitPhase_other {n j : Nat} (h : j ≠ n) (p : Nat) (s : State) :
    unitAt (unitPhase p s n) j = unitAt s j := by
  unfold unitPhase
  split
  · exact unitAt_updateUnit_other _ h
  · rw [unitAt_windowOpenAt_other h, unitAt_windowCloseAt_other h]

theorem length_unitPhase (p : Nat) (s : State) (n : Nat) :
    (unitPhase p s n).units.length = s.units.length := by
  unfold unitPhase
  split
  · exact length_updateUnit _ _ s
  · rw [length_windowOpenAt, length_windowCloseAt]

/-- Every unit acts at a phase reached as it stood before the phase. -/
theorem unitActs_phaseReached {n p : Nat} {s : State} (hs : s.units.length = 19) (hn : n < 19) :
    UnitActs n p s.line.pitch (unitAt s n) (unitAt (phaseReached p s) n) := by
  obtain ⟨-, -, h⟩ := foldl_unit (length_unitPhase p) (fun s n j h => unitAt_unitPhase_other h p s) s 19
  obtain ⟨k, -, h1, h2, h3⟩ := h n hn
  have hact := unitActs_unitPhase (n := n) (p := p) (s := (List.range k).foldl (unitPhase p) s)
    (by rw [h2, hs]; exact hn)
  have hline : ((List.range k).foldl (unitPhase p) s).line = s.line :=
    (BlockStep.foldl (unitPhase p) (unitPhase_step p) _ s).line
  rw [h1, ← h3, hline] at hact
  exact hact

/-- At phase 0 of a mark every unit acts as it stood after the events, its windows that close there being
closed already. -/
theorem unitActs_phaseZero {n : Nat} {s : State} (hs : s.units.length = 19) (hn : n < 19)
    (hw : isPulse n = false → (unitAt s n).window.any (fun w => w.close == 0) = false) :
    UnitActs n 0 s.line.pitch (unitAt s n) (unitAt (phaseZero s) n) := by
  have hother (s : State) (n j : Nat) (h : j ≠ n) : unitAt (unitPhaseZero s n) j = unitAt s j := by
    unfold unitPhaseZero
    split
    · exact unitAt_updateUnit_other _ h
    · exact unitAt_windowOpenAt_other h 0 s
  have hlen (s : State) (n : Nat) : (unitPhaseZero s n).units.length = s.units.length := by
    unfold unitPhaseZero
    split
    · exact length_updateUnit _ _ s
    · exact length_windowOpenAt _ _ s
  obtain ⟨-, -, h⟩ := foldl_unit hlen hother s 19
  obtain ⟨k, -, h1, h2, h3⟩ := h n hn
  have hline : ((List.range k).foldl unitPhaseZero s).line = s.line :=
    (BlockStep.foldl unitPhaseZero unitPhaseZero_step _ s).line
  have hlt : n < ((List.range k).foldl unitPhaseZero s).units.length := by rw [h2, hs]; exact hn
  rw [phaseZero, show Config.unitCount = 19 from rfl, h3]
  generalize (List.range k).foldl unitPhaseZero s = u at h1 hline hlt
  rw [← hline, ← h1]
  rw [← h1] at hw
  cases hk : isPulse n
  · rw [unitPhaseZero, if_neg (by simp [hk])]
    refine ⟨fun h => absurd (hk.symm.trans h) (by decide), fun _ => ⟨fun ho hp => ?_, fun h => ?_⟩⟩
    · obtain ⟨w, hw, h1, h2, h3, h4⟩ := windowOpenAt_opens hlt ho hp
      exact ⟨w, hw, h1, h2, h3, h4⟩
    · rw [windowOpenAt_still h, hw hk]
      rfl
  · rw [unitPhaseZero, if_pos hk, unitAt_updateUnit _ hlt]
    exact unitActs_pulse hk 0 _ _

/-! ### Pending settings of one unit (R171) -/

theorem unitAt_writeUnit_other {u n : Nat} (h : n ≠ u) (v : UnitSettings) (s : State) :
    unitAt (writeUnit u v s) n = unitAt s n := by
  unfold writeUnit
  dsimp only
  split
  · rw [unitAt_updateUnit_other _ h, unitAt_updateUnit_other _ h]
  · split
    · rw [unitAt_openWindow_other h, unitAt_updateUnit_other _ h]
    · exact unitAt_updateUnit_other _ h

/-- The pending settings of one unit take effect (R171). -/
def takePending (s : State) (u : Nat) : State :=
  match (unitAt s u).pending with
  | none => s
  | some n => writeUnit u n s

theorem applyPending_eq (s : State) : applyPending s = (List.range 19).foldl takePending s := rfl

/-- The pending settings of the others leave a unit without any as it is. -/
theorem unitAt_takePending {n : Nat} {s : State} (h : (unitAt s n).pending = none) (u : Nat) :
    unitAt (takePending s u) n = unitAt s n := by
  unfold takePending
  split
  · rfl
  · next v hv =>
    refine unitAt_writeUnit_other (fun k => ?_) v s
    rw [← k, h] at hv
    cases hv

theorem unitAt_applyPending {n : Nat} {s : State} (h : (unitAt s n).pending = none) :
    unitAt (applyPending s) n = unitAt s n := by
  have hfold (l : List Nat) : ∀ u : State, unitAt u n = unitAt s n →
      unitAt (l.foldl takePending u) n = unitAt s n := by
    induction l with
    | nil => exact fun u hu => hu
    | cons j l ih => exact fun u hu => ih _ ((unitAt_takePending (by rw [hu]; exact h) j).trans hu)
  rw [applyPending_eq]
  exact hfold _ s rfl

theorem drainBlocks_units (s : State) : (drainBlocks s).units = s.units := (drainBlocks_table s).units

/-- A drain test changes no unit without pending settings, and none at all unless it stops the line. -/
theorem unitAt_drainTest {n : Nat} {s : State}
    (h : (unitAt s n).pending = none ∨ s.line.state ≠ .draining ∨ (drainTest s).line.state ≠ .stopped) :
    unitAt (drainTest s) n = unitAt s n := by
  by_cases hd : s.line.state = .draining ∧ drainConditions s = true
  · have hstop : (drainTest s).line.state = .stopped := by
      rw [drainTest, if_pos hd, completeDrain_line]
      rfl
    have hp : (unitAt s n).pending = none :=
      h.resolve_right (not_or.mpr ⟨fun k => k hd.1, fun k => k hstop⟩)
    have hu : unitAt (enterLine .stopped
        { drainBlocks s with line := { (drainBlocks s).line with drain := false } }) n = unitAt s n :=
      unitAt_of_units (drainBlocks_units s) n
    rw [drainTest, if_pos hd, completeDrain, endDrain, stopLine, unitAt_applyPending (by rw [hu]; exact hp),
      hu]
  · rw [drainTest, if_neg hd]

theorem unitAt_settle {n : Nat} {s : State} (h : (unitAt s n).pending = none ∨ s.line.state = .stopped
    ∨ (settle s).line.state ≠ .stopped) : unitAt (settle s) n = unitAt s n := by
  rcases h with h | h | h
  · have hresume : unitAt (resumeIfClear s) n = unitAt s n := by
      unfold resumeIfClear
      split
      · exact unitAt_drainTest (s := enterLine (movingState s) s) (.inl h)
      · rfl
    rw [settle, unitAt_drainTest (.inl (by rw [hresume]; exact h)), hresume]
  · rw [settle_of_still (by rw [h]; decide) (by rw [h]; decide)]
  · by_cases hc : s.line.state = .holding ∧ s.holds.causes.isEmpty = true
    · have e : settle s = drainTest (enterLine (movingState s) s) := by
        rw [settle, resumeIfClear, if_pos hc, startMoving, drainTest_drainTest]
      rw [e] at h ⊢
      exact unitAt_drainTest (.inr (.inr h))
    · have e : settle s = drainTest s := by rw [settle, resumeIfClear, if_neg hc]
      rw [e] at h ⊢
      exact unitAt_drainTest (.inr (.inr h))

/-! ### The units through the events of a mark -/

/-- A window unit closes its window at phase 0 of a mark (R159, R164, R166). -/
def TimingUnit.closesAtMark (t : TimingUnit) : Prop :=
  t.window.any (fun w => w.close == 0) = true ∨ (t.opened = false ∧ t.effOn = 0)

/-- What the events of a mark can do to a unit: they give it an order, and close its window. -/
structure TimingUnit.MarkStep (x y : TimingUnit) : Prop where
  others : y = { x with ordered := y.ordered, window := y.window } := by rfl
  ordered : x.ordered = true → y.ordered = true := by exact id
  window : y.window = x.window ∨ (x.closesAtMark ∧ y.window = none) := by exact .inl rfl

theorem TimingUnit.MarkStep.refl (x : TimingUnit) : x.MarkStep x := {}

theorem TimingUnit.MarkStep.trans {x y z : TimingUnit} (h : x.MarkStep y) (k : y.MarkStep z) :
    x.MarkStep z where
  others := by
    have hz := k.others
    rw [h.others] at hz
    exact hz
  ordered := fun ho => k.ordered (h.ordered ho)
  window := by
    rcases k.window with hz | ⟨hc, hz⟩
    · rw [hz]
      exact h.window
    · rcases h.window with hy | ⟨hx, -⟩
      · refine .inr ⟨?_, hz⟩
        have hopened : y.opened = x.opened := by rw [h.others]
        have heff : y.effOn = x.effOn := by rw [h.others]
        rw [closesAtMark, hy, hopened, heff] at hc
        exact hc
      · exact .inr ⟨hx, hz⟩

/-- What the events of a mark can do to the units. -/
structure UnitsStep (s t : State) : Prop where
  length : t.units.length = s.units.length
  unit : ∀ n, (unitAt s n).MarkStep (unitAt t n)

theorem UnitsStep.of_units {s t : State} (h : t.units = s.units) : UnitsStep s t where
  length := by rw [h]
  unit := fun n => by
    rw [unitAt_of_units h]
    exact .refl _

theorem UnitsStep.trans {s t u : State} (h : UnitsStep s t) (k : UnitsStep t u) : UnitsStep s u where
  length := k.length.trans h.length
  unit := fun n => (h.unit n).trans (k.unit n)

theorem UnitsStep.foldl {α : Type} (f : State → α → State) (h : ∀ s a, UnitsStep s (f s a))
    (l : List α) : ∀ s, UnitsStep s (l.foldl f s) := by
  induction l with
  | nil => exact fun s => .of_units rfl
  | cons a l ih => exact fun s => (h s a).trans (ih _)

/-- A change of one unit. -/
theorem UnitsStep.of_update {s t : State} {u : Nat} {f : TimingUnit → TimingUnit}
    (ht : t.units = (updateUnit u f s).units) (hf : (unitAt s u).MarkStep (f (unitAt s u))) :
    UnitsStep s t where
  length := by rw [ht, length_updateUnit]
  unit := fun n => by
    rw [unitAt_of_units ht]
    by_cases hn : n = u
    · subst hn
      by_cases hlt : n < s.units.length
      · rw [unitAt_updateUnit _ hlt]
        exact hf
      · have hs : unitAt s n = TimingUnit.initial := unitAt_of_le (Nat.not_lt.mp hlt)
        have hu : unitAt (updateUnit n f s) n = TimingUnit.initial :=
          unitAt_of_le (by rw [length_updateUnit]; exact Nat.not_lt.mp hlt)
        rw [hs, hu]
        exact .refl _
    · rw [unitAt_updateUnit_other _ hn]
      exact .refl _

theorem giveOrder_units (u : Nat) (s : State) : UnitsStep s (giveOrder u s) :=
  .of_update rfl { ordered := fun _ => rfl }

theorem windowCloseAtMark_units (u : Nat) (s : State) : UnitsStep s (windowCloseAtMark u s) := by
  unfold windowCloseAtMark
  split
  · next h =>
    refine .of_update (closeWindow_units u s) { window := .inr ⟨?_, rfl⟩ }
    simpa [TimingUnit.closesAtMark] using h
  · exact .of_units rfl

/-- Once its event is taken a unit that closes its window at the mark has none. -/
theorem windowCloseAtMark_closes {u : Nat} {s : State} (h : (unitAt s u).closesAtMark) :
    (unitAt (windowCloseAtMark u s) u).window = none := by
  rw [windowCloseAtMark, if_pos (by simpa [TimingUnit.closesAtMark] using h), unitAt_closeWindow]

theorem dispatch_units (s : State) : (dispatch s).units = s.units := by rw [dispatch_eq]

theorem updatePrinterWait_units (s : State) : (updatePrinterWait s).units = s.units := by
  rw [updatePrinterWait_eq]

theorem cancelJob_units (p : Piece) (s : State) : (cancelJob p s).units = s.units := by
  cases h : p.job
  case none => rw [cancelJob_of_unsent (.inl h)]; rfl
  case due => rw [cancelJob_of_unsent (.inr h)]; rfl
  case sent => rw [cancelJob_of_outstanding (.inl h), dispatch_units, produceCancel_carrier]; rfl
  case accepted => rw [cancelJob_of_outstanding (.inr h), dispatch_units, produceCancel_carrier]; rfl
  case printed => rw [cancelJob_of_ended (.inl h)]
  case refused => rw [cancelJob_of_ended (.inr (.inl h))]
  case cancelled => rw [cancelJob_of_ended (.inr (.inr h))]

end Sys2Proof.Machine

/-! PROOF. The timing units through each event of a mark, and the settlement of O49. -/

namespace Sys2Proof.Machine

/-! ### Each event of a mark -/

theorem stackPiece_units (p : Piece) (b : Bundle) (k : PocketId) (s : State) :
    (stackPiece p b k s).units = s.units := by
  have hjoin (u : State) : (if b.state = .forming then displace k u else u).units = u.units := by
    split
    · exact (displace_table k u).units
    · rfl
  unfold stackPiece
  dsimp only
  split
  · rw [(endClaim_table _ _).units, (completionTest_table _ _).units, hjoin]
    rfl
  · rw [(completionTest_table _ _).units, hjoin]
    rfl

theorem latePiece_units (p : Piece) (departs : Bool) (s : State) :
    (latePiece p departs s).units = s.units := by
  unfold latePiece
  dsimp only
  split
  · exact (depart_table _ _).units
  · rfl

theorem stackerArrival_units (s : State) : (stackerArrival s).units = s.units := by
  unfold stackerArrival
  split
  · rfl
  · next p _ =>
    refine Eq.trans ?_ (lookAheadFor_table p.bundle s).units
    unfold stackOrLate
    split
    · exact latePiece_units _ _ _
    · split
      · split
        · exact stackPiece_units _ _ _ _
        · exact latePiece_units _ _ _
      · exact latePiece_units _ _ _

theorem diverterArrival_units (s : State) : UnitsStep s (diverterArrival s) := by
  have look (p : Piece) (u : State) : (lookAheadAtDiverter p u).units = u.units := by
    unfold lookAheadAtDiverter
    split
    · exact (lookAheadFor_table _ u).units
    · rfl
  have hand (p : Piece) : UnitsStep s (handOut p s) :=
    UnitsStep.trans (t := giveOrder 18 s) (giveOrder_units 18 s) (.of_units rfl)
  have departs (p : Piece) (r : Record) (u : State) (hu : u.units = (giveOrder 17 s).units) :
      UnitsStep s (depart r u) :=
    (giveOrder_units 17 s).trans (.of_units ((depart_table r u).units.trans hu))
  unfold diverterArrival
  split
  · exact .of_units rfl
  next p _ =>
    split
    · exact .of_units rfl
    next r _ =>
      unfold divert
      split
      · exact departs p r _ rfl
      · split
        · dsimp only
          split
          · exact UnitsStep.trans (t := giveOrder 17 s) (giveOrder_units 17 s) (.of_units rfl)
          · exact departs p r _ rfl
        · split
          · exact .of_units (look p _)
          · exact .of_units (look p _)
          · exact .of_units (look p _)
          all_goals exact hand p

theorem waitCheck_units (p : Piece) (s : State) : (waitCheck p s).units = s.units := by
  cases h : p.job <;> simp only [waitCheck, h] <;> rfl

theorem printerJobsAtMark_units (s : State) : (printerJobsAtMark s).units = s.units := by
  have hsent (due : Bool) (u : State) : (if due then dispatch u else u).units = u.units := by
    split
    · exact dispatch_units u
    · rfl
  unfold printerJobsAtMark
  dsimp only
  split
  · exact hsent _ _
  · rw [waitCheck_units]
    exact hsent _ _

theorem verifyArrival_units (s : State) : (verifyArrival s).units = s.units := by
  unfold verifyArrival
  split
  · rfl
  · dsimp only
    split
    · rfl
    · exact cancelJob_units _ s

theorem carrierArrival_units (s : State) : UnitsStep s (carrierArrival s) := by
  unfold carrierArrival
  split
  · exact .of_units rfl
  · split
    · exact giveOrder_units 14 s
    · exact .of_units rfl

theorem insertArrivals_units (s : State) : UnitsStep s (insertArrivals s) := by
  refine UnitsStep.foldl _ (fun s i => ?_) _ s
  split
  · exact .of_units rfl
  · split
    · exact giveOrder_units _ s
    · exact .of_units rfl

theorem bear_units (r : Record) (s : State) : UnitsStep s (bear r s) :=
  UnitsStep.trans (t := giveOrder 0 s) (giveOrder_units 0 s) (.of_units rfl)

/-- A birth after acts of the plan and bundle tables. -/
theorem bear_after_table (r : Record) {s t : State} (h : TableStep s t) : UnitsStep s (bear r t) :=
  UnitsStep.trans (.of_units h.units) (bear_units r t)

theorem gap_units (c : GapCause) {s t : State} (h : t.units = s.units) : UnitsStep s (gap c t) :=
  .of_units h

theorem birthDecision_units (m : LineState) (s : State) : UnitsStep s (birthDecision m s) := by
  unfold birthDecision
  split
  · split
    · exact gap_units _ rfl
    · split
      · exact gap_units _ rfl
      · split
        · exact gap_units _ rfl
        · split
          · exact bear_units _ s
          · unfold bearWaiting
            split
            · exact gap_units _ rfl
            · exact bear_after_table _ (allocateBundle_table _ _ s)
          · unfold bearNewRoute
            split
            · exact gap_units _ rfl
            · split
              · exact gap_units _ rfl
              · exact bear_after_table _ ((makePlan_table _ _ s).trans
                  ((allocateBundle_table _ _ _).trans (finaliseOthers_table _ _)))
          · unfold bearGrowing
            split
            · exact .of_units rfl
            · split
              · refine gap_units _ ?_
                split
                · rfl
                · exact (closeToGrowth_table _ s).units
              · split
                · exact bear_after_table _ ((joinOrdinal_table _ _ s).trans
                    ((takeRef_table _ _ _).trans ((finaliseIfEnd_table _ _ _).trans
                      (finaliseOthers_table _ _))))
                · split
                  · exact gap_units _ rfl
                  · exact bear_after_table _ ((openOrdinal_table _ _ _ s).trans
                      ((takeRef_table _ _ _).trans ((allocateBundle_table _ _ _).trans
                        ((finaliseIfEnd_table _ _ _).trans (finaliseOthers_table _ _)))))
  · exact .of_units rfl

/-- With no pending settings a drain test changes no unit. -/
theorem drainTest_units {s : State} (h : NonePending s) : (drainTest s).units = s.units := by
  unfold drainTest
  split
  · have hd : NonePending (drainBlocks s) := fun u hu => h u ((drainBlocks_units s) ▸ hu)
    have hstop : (completeDrain s).units = (drainBlocks s).units := by
      rw [completeDrain, endDrain, stopLine_of_nonePending (s :=
        { drainBlocks s with line := { (drainBlocks s).line with drain := false } }) _ hd]
    rw [hstop, drainBlocks_units]
  · rfl

theorem markEvent_units (m : LineState) {s : State} (h : NonePending s) (e : MarkEvent) :
    UnitsStep s (markEvent m s e) := by
  cases e with
  | windowClose u =>
    rw [markEvent]
    split
    · exact .of_units rfl
    · exact windowCloseAtMark_units u s
  | stackerArrival => exact .of_units (stackerArrival_units s)
  | diverterArrival => exact diverterArrival_units s
  | lookAhead => exact .of_units (lookAheadAtMark_table s).units
  | holdExpiry => exact .of_units (holdExpiryTest_table s).units
  | wrapArrival =>
    refine .of_units ?_
    rw [markEvent, wrapArrival]
    split <;> rfl
  | verifyTimeout => exact UnitsStep.foldl (fun s n => timeOutEntry n s) (fun s n => .of_units rfl) _ s
  | verifyArrival => exact .of_units (verifyArrival_units s)
  | carrierArrival => exact carrierArrival_units s
  | printerJobs => exact .of_units (printerJobsAtMark_units s)
  | insertArrivals => exact insertArrivals_units s
  | birthDecision => exact birthDecision_units m s
  | drainTest => exact .of_units (drainTest_units h)

theorem UnitsStep.nonePending {s t : State} (h : UnitsStep s t) (hs : NonePending s) : NonePending t := by
  rw [nonePending_iff] at hs ⊢
  intro n
  rw [(h.unit n).others]
  exact hs n

theorem foldl_markEvent_units (m : LineState) (events : List MarkEvent) : ∀ {s : State}, NonePending s →
    UnitsStep s (events.foldl (markEvent m) s) := by
  induction events with
  | nil => exact fun _ => .of_units rfl
  | cons e events ih =>
    intro s h
    have he := markEvent_units m h e
    exact he.trans (ih (he.nonePending h))

/-! ### The windows that close at phase 0 of a mark -/

theorem TimingUnit.MarkStep.window_none {x y : TimingUnit} (h : x.MarkStep y) (hx : x.window = none) :
    y.window = none := by
  rcases h.window with hy | ⟨-, hy⟩
  · rw [hy, hx]
  · exact hy

/-- Every window unit is closed by its event of the mark, if it closes at the mark. -/
theorem markEvents_closes {n : Nat} (hn : isPulse n = false) (h19 : n < 19) (m : LineState)
    (order : List MarkEvent) {s : State} (h : NonePending s) (hc : (unitAt s n).closesAtMark) :
    (unitAt (markEvents m order s) n).window = none := by
  have hmem : MarkEvent.windowClose n ∈ markOrder order := by
    refine mem_markOrder.mpr (.inr ?_)
    interval_cases n <;> revert hn <;> decide
  obtain ⟨before, after, he⟩ := List.append_of_mem hmem
  have hb := foldl_markEvent_units m before h
  have hnone : (unitAt (markEvent m (before.foldl (markEvent m) s) (.windowClose n)) n).window = none := by
    generalize before.foldl (markEvent m) s = u at hb
    rw [markEvent, if_neg (by simp [hn])]
    rcases (hb.unit n).window with hw | ⟨-, hw⟩
    · refine windowCloseAtMark_closes ?_
      rw [(hb.unit n).others]
      rwa [TimingUnit.closesAtMark, hw]
    · exact ((windowCloseAtMark_units n u).unit n).window_none hw
  have hu := hb.trans (markEvent_units m (hb.nonePending h) (.windowClose n))
  have ha := foldl_markEvent_units m after (hu.nonePending h)
  have hend := (hu.trans ha).nonePending h
  rw [markEvents, he, List.foldl_append, List.foldl_cons, unitAt_of_units (drainTest_units hend)]
  exact (ha.unit n).window_none hnone

theorem markEvents_units (m : LineState) (order : List MarkEvent) {s : State} (h : NonePending s) :
    UnitsStep s (markEvents m order s) := by
  have hf := foldl_markEvent_units m (markOrder order) h
  exact hf.trans (.of_units (drainTest_units (hf.nonePending h)))

/-- The window of a unit after the events of a mark. -/
theorem markEvents_window {n : Nat} (hn : isPulse n = false) (h19 : n < 19) (m : LineState)
    (order : List MarkEvent) {s : State} (h : NonePending s) (ho : (unitAt s n).opened = false) :
    (unitAt (markEvents m order s) n).window =
      if (unitAt s n).window.any (fun w => w.close == 0) = true ∨ (unitAt s n).effOn = 0 then none
      else (unitAt s n).window := by
  split
  · next hc => exact markEvents_closes hn h19 m order h (hc.imp_right fun k => ⟨ho, k⟩)
  · next hc =>
    rcases ((markEvents_units m order h).unit n).window with hw | ⟨hx, -⟩
    · exact hw
    · exact absurd (hx.imp_right And.right) hc

/-! ### A unit at the beginning of a mark (R167, R168, R171) -/

/-- A unit as a mark begins: its pending settings in force, its advance and its effective phases. -/
def TimingUnit.begun (s : State) (n : Nat) (t : TimingUnit) : TimingUnit :=
  TimingUnit.compensate s.geometry.c
    (if isPulse n = true then
      advanceFor s.geometry.c (t.pending.getD t.settings).latency s.line.atMark.period else 0)
    { t with settings := t.pending.getD t.settings, pending := none, opened := false }

theorem unitAt_markBegun {s : State} {n : Nat} (hn : n < s.units.length) :
    unitAt (markBegun s) n = (unitAt s n).begun s n := by
  have h : (markBegun s).units[n]? = some ((unitAt s n).begun s n) := by
    rw [markBegun_eq]
    dsimp only
    rw [List.getElem?_mapIdx, getElem?_units hn]
    rfl
  exact unitAt_of_getElem? h

theorem nonePending_markBegun (s : State) : NonePending (markBegun s) := by
  intro u hu
  rw [markBegun_eq] at hu
  obtain ⟨n, hn, rfl⟩ := List.mem_mapIdx.mp hu
  rfl

theorem length_markBegun (s : State) : (markBegun s).units.length = s.units.length := by
  rw [markBegun_eq]
  exact List.length_mapIdx

theorem takeFault_units (c : FaultCause) (s : State) : (takeFault c s).units = s.units := by
  rw [takeFault_eq_faultByState, faultByState]
  cases s.line.state <;> rfl

theorem changeAtMark_units (m : LineState) (s : State) : (changeAtMark m s).units = s.units := by
  unfold changeAtMark
  split
  · split
    · split
      · rfl
      · split <;> rfl
    · rfl
  · exact takeFault_units _ s

/-- A phase leaves the settings and the phases of a unit alone. -/
theorem UnitActs.fixed {n p : Nat} {pitch : BitVec 32} {x y : TimingUnit} (h : UnitActs n p pitch x y) :
    y = { x with ordered := y.ordered, pulse := y.pulse, window := y.window, opened := y.opened } := by
  cases hn : isPulse n
  · obtain ⟨hopen, hstill⟩ := h.2 hn
    by_cases ho : x.opened = false ∧ x.effOn = p
    · obtain ⟨w, hw, -⟩ := hopen ho.1 ho.2
      rw [hw]
    · rw [hstill (by
        rcases not_and_or.mp ho with k | k
        · exact .inl (by simpa using k)
        · exact .inr k)]
  · obtain ⟨hbegin, hstill⟩ := h.1 hn
    by_cases ho : x.ordered = true ∧ x.effOn = p
    · obtain ⟨htrue, hfalse⟩ := hbegin ho.1 ho.2
      cases he : x.settings.enable
      · rw [hfalse he]
      · rw [htrue he]
    · rw [hstill (by
        rcases not_and_or.mp ho with k | k
        · exact .inl (by simpa using k)
        · exact .inr k)]

/-! ### A unit through a mark -/

section Mark
variable {t : State} {n : Nat} (order : List MarkEvent) (ht : t.units.length = 19) (hn : n < 19)
include ht hn

theorem markEvents_unit : ((unitAt t n).begun t n).MarkStep
    (unitAt (markEvents t.line.state order (markBegun t)) n) := by
  have h := (markEvents_units t.line.state order (nonePending_markBegun t)).unit n
  rwa [unitAt_markBegun (by rw [ht]; exact hn)] at h

theorem markEvents_unit_window (hp : isPulse n = false) :
    (unitAt (markEvents t.line.state order (markBegun t)) n).window =
      if (unitAt t n).window.any (fun w => w.close == 0) = true
        ∨ (unitAt (markEvents t.line.state order (markBegun t)) n).effOn = 0 then none
      else (unitAt t n).window := by
  have hb := unitAt_markBegun (s := t) (n := n) (by rw [ht]; exact hn)
  have h := markEvents_window hp hn t.line.state order (nonePending_markBegun t) (by rw [hb]; rfl)
  rw [hb] at h
  rw [h, (markEvents_unit order ht hn).others]
  rfl

theorem pitchMark_unit : UnitActs n 0 (t.line.pitch + 1)
    (unitAt (markEvents t.line.state order (markBegun t)) n) (unitAt (pitchMark order t) n) := by
  have hu : unitAt (pitchMark order t) n
      = unitAt (phaseZero (markEvents t.line.state order (markBegun t))) n :=
    unitAt_of_units (changeAtMark_units _ _) n
  have hpitch : (markEvents t.line.state order (markBegun t)).line.pitch = t.line.pitch + 1 := by
    rw [(markEvents_motion _ _ _).pitch, markBegun_line]
    rfl
  rw [hu, ← hpitch]
  refine unitActs_phaseZero ?_ hn (fun hp => ?_)
  · rw [(markEvents_units _ order (nonePending_markBegun t)).length, length_markBegun, ht]
  · rw [markEvents_unit_window order ht hn hp]
    split
    · rfl
    · next h => exact Bool.eq_false_iff.mpr (not_or.mp h).1

end Mark

end Sys2Proof.Machine

/-! PROOF. The acts of the units at phases, at marks, by the arrivals and at their inputs: O49. -/

namespace Sys2Proof.Machine

/-! ### The advance (R167) -/

theorem advanceFor_none (c latency : Nat) : advanceFor c latency none = 0 := rfl

theorem advanceFor_slow {q : Nat} (h : 10000000 < q) (c latency : Nat) :
    advanceFor c latency (some q) = 0 := if_pos h

theorem advanceFor_measured {q : Nat} (h : 0 < q) (hq : q ≤ 10000000) (c latency : Nat) :
    advanceFor c latency (some q) = min (c - 1) ((2 * (latency * c) + q) / (2 * q)) := by
  simp only [advanceFor, if_neg (Nat.not_lt.mpr hq), if_neg (show ¬ q = 0 by omega)]
  split
  · next hl =>
    rw [hl, Nat.zero_mul, Nat.mul_zero, Nat.zero_add, Nat.div_eq_of_lt (by omega), Nat.min_zero]
  · rfl

/-! ### The arrivals that give orders (R77, R82, R95) -/

/-- Whether the piece at an insert station calls the insert. -/
def insertCalled (s : State) (i : Nat) : Bool :=
  ((insertOffset s.geometry i).bind (pieceAt s)).any (fun p => p.version.getLsbD i)

/-- The units with the orders of the called inserts below a number. -/
def insertOrders (called : Nat → Bool) (k : Nat) (l : List TimingUnit) : List TimingUnit :=
  l.mapIdx (fun n t =>
    if (2 ≤ n ∧ n < k + 2) ∧ called (n - 2) = true then { t with ordered := true } else t)

theorem insertOrders_zero (called : Nat → Bool) (l : List TimingUnit) : insertOrders called 0 l = l := by
  refine List.ext_getElem? fun n => ?_
  have h : ¬ (2 ≤ n ∧ n ≤ 1) := by omega
  simp [insertOrders, h]

theorem insertOrders_succ (called : Nat → Bool) (k : Nat) (l : List TimingUnit) :
    insertOrders called (k + 1) l = if called k = true then
        (insertOrders called k l).modify (k + 2) (fun t => { t with ordered := true })
      else insertOrders called k l := by
  refine List.ext_getElem? fun n => ?_
  by_cases hn : n = k + 2
  · subst hn
    cases hc : called k <;> cases hs : l[k + 2]? <;> simp [insertOrders, hc, hs]
  · have hiff : (2 ≤ n ∧ n < k + 1 + 2) ↔ (2 ≤ n ∧ n < k + 2) := by omega
    cases hc : called k <;> simp [insertOrders, hiff, Ne.symm hn]

/-- The arrival at one insert station (R82). -/
def callInsert (s : State) (i : Nat) : State :=
  match (insertOffset s.geometry i).bind (pieceAt s) with
  | none => s
  | some p => if p.version.getLsbD i then giveOrder (i + 2) s else s

theorem callInsert_eq (s : State) (i : Nat) :
    callInsert s i = if insertCalled s i = true then giveOrder (i + 2) s else s := by
  rw [callInsert, insertCalled]
  cases (insertOffset s.geometry i).bind (pieceAt s) <;> rfl

theorem insertArrivals_foldl (s : State) : insertArrivals s = (List.range 6).foldl callInsert s := rfl

theorem foldl_callInsert (k : Nat) (s : State) : (List.range k).foldl callInsert s =
    { s with units := insertOrders (insertCalled s) k s.units } := by
  induction k with
  | zero => rw [insertOrders_zero]; rfl
  | succ k ih =>
    have hc : insertCalled { s with units := insertOrders (insertCalled s) k s.units } k
        = insertCalled s k := rfl
    rw [List.range_succ, List.foldl_append, ih, List.foldl_cons, List.foldl_nil, callInsert_eq,
      insertOrders_succ, hc]
    split <;> rfl

/-- The orders of the six inserts, as the statement of O49 has them. -/
theorem insertOrders_six (called : Nat → Bool) (l : List TimingUnit) : insertOrders called 6 l =
    l.mapIdx (fun n t => if (2 ≤ n ∧ n ≤ 7) ∧ called (n - 2) = true then { t with ordered := true } else t) := by
  refine congrArg (fun f => l.mapIdx f) (funext fun n => funext fun t => ?_)
  exact if_congr (and_congr_left' (by omega)) rfl rfl

theorem carrierArrival_orders {s : State} {p : Piece} (h : pieceAt s s.geometry.cOff = some p)
    (hj : p.job = .accepted ∨ p.job = .printed) : carrierArrival s = giveOrder 14 s := by
  simp only [carrierArrival, h, if_pos hj]

theorem carrierArrival_still {s : State} (h : ∀ p, pieceAt s s.geometry.cOff = some p →
    p.job ≠ .accepted ∧ p.job ≠ .printed) : carrierArrival s = s := by
  unfold carrierArrival
  split
  · rfl
  · next p hp => exact if_neg (not_or.mpr (h p hp))

/-! ### The edges on the station inputs (R165) -/

theorem exec_stationInputEdge {line : EdgeInput} {s : State} (h : s.inputs.reset = false) :
    exec (.stationInputEdge line) s = .next (stationInputEdge line s) := next_lineEvent _ h

section Edge
variable {line : EdgeInput} {s : State} {t : TimingUnit} (ht : s.units[edgeUnit line]? = some t)
include ht

theorem stationInputEdge_counted {w : OpenWindow} (hw : t.window = some w) (he : w.enabled = true) :
    stationInputEdge line s =
      { s with
        units := s.units.set (edgeUnit line)
          { t with window := some { w with edges := min 2 (w.edges + 1) } } } := by
  rw [stationInputEdge, updateUnit, modify_eq_set_of_getElem? ht, hw, Option.map_some, OpenWindow.edge,
    if_pos he]

theorem stationInputEdge_lost (hw : ∀ w, t.window = some w → w.enabled = false) :
    stationInputEdge line s = s := by
  have hmap : t.window.map OpenWindow.edge = t.window := by
    cases h : t.window with
    | none => rfl
    | some w => rw [Option.map_some, OpenWindow.edge, if_neg (by simp [hw w h])]
  have hset : s.units.set (edgeUnit line) { t with window := t.window } = s.units := by
    obtain ⟨h, rfl⟩ := List.getElem?_eq_some_iff.mp ht
    exact List.set_getElem_self h
  rw [stationInputEdge, updateUnit, modify_eq_set_of_getElem? ht, hmap, hset]

end Edge

/-! ### The acts of a phase, unit after unit (R159, log entry 29) -/

/-- A PULSE unit at a phase reached, as the statement of O49 has it. -/
def pulsedAt (p n : Nat) (v : State) : State :=
  { v with
    units := v.units.modify n (fun t =>
      let ended := if t.pulse = some p then none else t.pulse
      if t.ordered = true ∧ t.effOn = p then
        { t with
          ordered := false
          pulse := if t.settings.enable = true then some t.effOff else ended }
      else { t with pulse := ended }) }

theorem updateUnit_pulseAt (p n : Nat) (v : State) :
    updateUnit n (TimingUnit.pulseAt p) v = pulsedAt p n v := by
  rw [updateUnit, pulsedAt, show TimingUnit.pulseAt p = _ from funext (pulseAt_eq p)]

theorem windowOpenAt_eq (n p : Nat) (v : State) : windowOpenAt n p v =
    if (unitAt v n).opened = false ∧ (unitAt v n).effOn = p then openWindow n v else v := by
  rw [windowOpenAt]
  exact if_congr (by simp) rfl rfl

/-- The close of a window at a phase reached, as the statement of O49 has it. -/
theorem windowCloseAt_eq (n p : Nat) (v : State) : windowCloseAt n p v =
    match (unitAt v n).window with
    | none => v
    | some w =>
      if w.close = p then
        deliverResult n w { v with units := v.units.modify n (fun t => { t with window := none }) }
      else v := by
  rw [windowCloseAt, closeWindow]
  cases (unitAt v n).window with
  | none => rfl
  | some w =>
    simp only [Option.any_some, beq_iff_eq]
    rfl

theorem phaseReached_eq (p : Nat) (s : State) : phaseReached p s = (List.range 19).foldl (fun v n =>
    if isPulse n = true then pulsedAt p n v else windowOpenAt n p (windowCloseAt n p v)) s := by
  refine congrArg (fun f => (List.range 19).foldl f s) (funext fun v => funext fun n => ?_)
  rw [unitPhase, updateUnit_pulseAt]

theorem phaseZero_eq (s : State) : phaseZero s = (List.range 19).foldl (fun v n =>
    if isPulse n = true then pulsedAt 0 n v else windowOpenAt n 0 v) s := by
  refine congrArg (fun f => (List.range 19).foldl f s) (funext fun v => funext fun n => ?_)
  rw [unitPhaseZero, updateUnit_pulseAt]

/-! ### A unit after a mark -/

theorem period_eq_match (l : LineUnit) : (if l.state.moving = true then
      match l.sinceMark with
      | some x => some (min 4294967295 x)
      | none => l.period
    else l.period) = l.atMark.period := by
  simp only [LineUnit.atMark]
  cases l.sinceMark <;> rfl

/-- What the unit of a mark takes from the mark's beginning, whatever its events and its phase 0 do. -/
theorem begun_fields {s : State} {n : Nat} {t before now : TimingUnit} {pitch : BitVec 32}
    (hb : (t.begun s n).MarkStep before) (ha : UnitActs n 0 pitch before now) :
    now.settings = t.pending.getD t.settings ∧ now.pending = none
      ∧ now.advance = (if isPulse n = true then
          advanceFor s.geometry.c (t.pending.getD t.settings).latency s.line.atMark.period else 0)
      ∧ now.effOn = now.settings.on - now.advance
      ∧ now.effOff = (now.effOn + (now.settings.off + s.geometry.c - now.settings.on) % s.geometry.c)
          % s.geometry.c
      ∧ now.compLimit = decide (now.settings.on < now.advance)
      ∧ before.opened = false ∧ before.effOn = now.effOn ∧ before.effOff = now.effOff
      ∧ before.pulse = t.pulse := by
  rw [ha.fixed, hb.others]
  exact ⟨rfl, rfl, rfl, rfl, rfl, rfl, rfl, rfl, rfl, rfl⟩

section Unit
variable {t : State} {n : Nat} (ht : t.units.length = 19) (hn : n < 19)
include ht hn

theorem unitActs_within (p : Nat) : UnitActs n p t.line.pitch (unitAt t n)
    (unitAt (phaseReached p { t with line := { t.line with inPitch := p } }) n) :=
  unitActs_phaseReached (s := { t with line := { t.line with inPitch := p } }) ht hn

end Unit

theorem unitAt_settle_within {t : State} {n p : Nat} {v : State}
    (hv : phaseReached p { t with line := { t.line with inPitch := p } } = v)
    (h : (unitAt v n).pending = none ∨ t.line.state = .stopped ∨ (settle v).line.state ≠ .stopped) :
    unitAt (settle v) n = unitAt v n := by
  have hline : v.line.state = t.line.state := by rw [← hv, (phaseReached_step p _).line]
  exact unitAt_settle (hline ▸ h)

/-- Settles O49. -/
theorem unitsActAtTheirPhases : Obligations.UnitsActAtTheirPhases := by
  unfold Obligations.UnitsActAtTheirPhases
  intro acts
  refine ⟨fun i s h => ?count, fun p s => ?phase, fun c latency q => ⟨advanceFor_none c latency,
    fun hq => advanceFor_slow hq c latency, fun h0 hq => advanceFor_measured h0 hq c latency⟩,
    fun s => ?arrivals, fun line s h => ?edges⟩
  case count =>
    intro t p c hb ht
    have he : exec (.encoderForwardCount i) s = .next (forwardCount i.order t) := exec_forwardCount h
    rw [he]
    clear he
    clear_value t
    refine ⟨fun hp => ?within, fun hp => ?mark⟩
    case within =>
      intro v
      refine ⟨congrArg Host.Outcome.next (forwardCount_within _ hb hp),
        fun n hn => unitActs_within ht hn p, fun n hn hn' => unitAt_settle_within rfl hn'⟩
    case mark =>
      intro v
      refine ⟨pitchMark i.order t, congrArg Host.Outcome.next (forwardCount_mark _ hb hp), fun n hn => ?_⟩
      have hkept := markEvents_unit i.order ht hn
      have hacts := pitchMark_unit i.order ht hn
      have hwindow := markEvents_unit_window (t := t) i.order ht hn
      intro settings before now period
      have hperiod : t.line.atMark.period = period := (period_eq_match t.line).symm
      obtain ⟨h1, h2, h3, h4, h5, h6, h7, h8, h9, h10⟩ := begun_fields hkept hacts
      rw [h1] at h4 h5
      refine ⟨h1, h2, fun k => ?_, fun q hk hq h0 => ?_, fun q hk hq h0 hle => ?_, ?_, ?_, ?_, hacts, h7, h8,
        h9, h10, hkept.ordered, hwindow⟩
      · rcases k with k | k
        · exact h3.trans (if_neg (by simp [k]))
        · refine h3.trans ?_
          rw [hperiod.trans k, advanceFor_none, ite_self]
      · refine (h3.trans (if_pos hk)).trans ?_
        rw [hperiod.trans hq, advanceFor_slow h0]
      · refine (h3.trans (if_pos hk)).trans ?_
        rw [hperiod.trans hq, advanceFor_measured h0 hle]
      · exact h4
      · exact h5
      · rw [h6, h1, decide_eq_true_iff]
  case phase =>
    intro pulsed closed opened
    have hclosed (n : Nat) (v : State) : windowCloseAt n p v = closed n v := windowCloseAt_eq n p v
    have hopened (n : Nat) (v : State) : windowOpenAt n p v = opened n v := windowOpenAt_eq n p v
    refine ⟨?_, fun hp => ?_⟩
    · rw [phaseReached_eq]
      simp only [hclosed, hopened]
      rfl
    · subst hp
      rw [phaseZero_eq]
      simp only [hopened]
      rfl
  case arrivals =>
    intro called
    refine ⟨?_, fun p hp hj => carrierArrival_orders hp hj, carrierArrival_still⟩
    rw [insertArrivals_foldl, foldl_callInsert, insertOrders_six]
    rfl
  case edges =>
    intro u
    have hu : edgeUnit line = u := by cases line <;> rfl
    refine ⟨fun t w ht hw he => ?_, fun t ht hw => ?_⟩
    · rw [exec_stationInputEdge h, stationInputEdge_counted (by rw [hu]; exact ht) hw he, hu]
    · rw [exec_stationInputEdge h, stationInputEdge_lost (by rw [hu]; exact ht) hw]

end Sys2Proof.Machine

/-! PROOF. The diverter decision: O51. -/

namespace Sys2Proof.Machine

/-! ### Ends of a piece's way (R6, R87, R120) -/

/-- A record sent to EXCEPTION, with its remake count at the time (R6, R152). -/
theorem enterException_eq {k : Nat} {s : State} {r : Record} (h : findRecord s k = some r)
    (d : Disposition) (cause : Option DefectCause) (n : Option (BitVec 16)) :
    enterException k d cause n s =
      { s with
        store := s.store.map (fun a =>
          if a.key = k then { a with state := .exception, disposition := some d } else a)
        queue := { s.queue with order := s.queue.order.filter (fun j => j ≠ k) }
        stacker :=
          { s.stacker with
            exceptions := s.stacker.exceptions ++ [ExceptionEntry.mk k d cause n r.remakeCount] } } := by
  rw [enterException, h]
  rfl

/-- Two changes of one record are one, where the first keeps the keys. -/
theorem map_record_map_record (l : List Record) (k : Nat) {f g : Record → Record}
    (h : ∀ a, (f a).key = a.key) :
    (l.map (fun a => if a.key = k then f a else a)).map (fun a => if a.key = k then g a else a)
      = l.map (fun a => if a.key = k then g (f a) else a) := by
  rw [List.map_map]
  refine List.map_congr_left fun a _ => ?_
  by_cases ha : a.key = k <;> simp [ha, h]

/-- A piece that the diverter takes out of the table by a gate. -/
def divertedOut (p : Piece) (gate : Nat) (d : Diverter) (change : Record → Record) (s : State) : State :=
  { s with
    store := s.store.map (fun a => if a.key = p.key then change a else a)
    tracking := { s.tracking with pieces := s.tracking.pieces.filter (fun q => q.number ≠ p.number) }
    carrier := { s.carrier with jobs := s.carrier.jobs.filter (fun j => j ≠ p.number) }
    verify :=
      { s.verify with
        previous := if s.verify.previous = some p.number then none else s.verify.previous }
    diverter := d
    units := s.units.modify gate (fun u => { u with ordered := true }) }

/-- The entry of a piece's record in the exception list. -/
def exceptionListed (p : Piece) (r : Record) (why : Disposition) (cause : Option DefectCause)
    (u : State) : State :=
  { u with
    queue := { u.queue with order := u.queue.order.filter (fun k => k ≠ p.key) }
    stacker :=
      { u.stacker with
        exceptions := u.stacker.exceptions
          ++ [ExceptionEntry.mk p.key why cause (some p.number) r.remakeCount] } }

section Divert
variable {s : State} {p : Piece} {r : Record} (hr : findRecord s p.key = some r)
include hr

theorem rejectWithdrawn_eq : rejectWithdrawn p r s = depart r (exceptionListed p r .withdrawn none
    (divertedOut p 17 { s.diverter with withdrawn := raise top16 s.diverter.withdrawn }
      (fun a => { a with state := .exception, disposition := some .withdrawn }) s)) := by
  rw [rejectWithdrawn, enterException_eq (s := removePiece p.number s) hr]
  rfl

theorem handOut_eq : handOut p s = exceptionListed p r .lateMade none
    (divertedOut p 18 { s.diverter with lateMade := raise top16 s.diverter.lateMade }
      (fun a => { a with state := .exception, disposition := some .lateMade }) s) := by
  rw [handOut, enterException_eq (s := removePiece p.number s) hr]
  rfl

theorem rejectSpoiled_eq (first : Option DefectCause) : rejectSpoiled p r first s =
    depart r (exceptionListed p r .spoiled first
      (divertedOut p 17 { s.diverter with spoiled := raise top16 s.diverter.spoiled }
        (fun a =>
          { a with lastDefect := first, state := .exception, disposition := some .spoiled }) s)) := by
  have hu : findRecord (updateRecord p.key (fun a => { a with lastDefect := first })
      (removePiece p.number s)) p.key = some { r with lastDefect := first } :=
    findRecord_updateRecord_same p.key (fun a => { a with lastDefect := first }) (fun _ => rfl)
      (s := removePiece p.number s) hr
  rw [rejectSpoiled, enterException_eq hu]
  have hm : (updateRecord p.key (fun a => { a with lastDefect := first }) (removePiece p.number s)).store.map
        (fun a => if a.key = p.key then { a with state := .exception, disposition := some .spoiled } else a)
      = s.store.map (fun a => if a.key = p.key then
          { a with lastDefect := first, state := .exception, disposition := some .spoiled } else a) :=
    map_record_map_record s.store p.key (fun _ => rfl)
  rw [hm]
  rfl

end Divert

/-- A reject to the front section as REMAKE (R121). -/
theorem rejectRemade_eq (p : Piece) (first : Option DefectCause) (s : State) : rejectRemade p first s =
    { divertedOut p 17 { s.diverter with remade := raise top16 s.diverter.remade }
        (fun a =>
          { a with
            lastDefect := first
            remakeCount := a.remakeCount + 1
            state := .queued
            kind := .remake }) s with
      queue :=
        { s.queue with
          order := s.queue.order.takeWhile (fun k => !isNormal s k)
            ++ p.key :: s.queue.order.dropWhile (fun k => !isNormal s k) } } := by
  generalize hu : updateRecord p.key
    (fun a => { a with lastDefect := first, remakeCount := a.remakeCount + 1 }) (removePiece p.number s) = u
  have hn : isNormal u = isNormal s := by
    funext k
    have hf : findRecord u k = (findRecord s k).map (fun a => if a.key = p.key then
        { a with lastDefect := first, remakeCount := a.remakeCount + 1 } else a) := by
      rw [← hu]
      exact findRecord_mapRecords _ (fun a => by split <;> rfl) k (removePiece p.number s)
    rw [isNormal, isNormal, hf]
    cases findRecord s k with
    | none => rfl
    | some a =>
      rw [Option.map_some, Option.any_some, Option.any_some]
      split <;> rfl
  have hm : u.store.map (fun a => if a.key = p.key then { a with state := .queued, kind := .remake } else a)
      = s.store.map (fun a => if a.key = p.key then
          { a with
            lastDefect := first
            remakeCount := a.remakeCount + 1
            state := .queued
            kind := .remake } else a) := by
    rw [← hu]
    exact map_record_map_record s.store p.key (fun _ => rfl)
  rw [rejectRemade, hu, requeue_eq, hn, hm, ← hu]
  rfl

/-! ### What stands after a reject -/

theorem divertedOut_gone {p : Piece} {gate : Nat} {s t : State} (hg : gate < s.units.length)
    (ht : t.tracking.pieces = s.tracking.pieces.filter (fun q => q.number ≠ p.number))
    (hu : t.units = s.units.modify gate (fun u => { u with ordered := true })) :
    pieceNumbered t p.number = none ∧ (unitAt t gate).ordered = true := by
  refine ⟨?_, ?_⟩
  · rw [pieceNumbered_eq_none, ht]
    simp
  · have h : (unitAt (giveOrder gate s) gate).ordered = true := by
      rw [giveOrder, unitAt_updateUnit _ hg]
    rwa [unitAt_of_units (s := giveOrder gate s) hu]

theorem findRecord_divertedOut {p : Piece} {gate : Nat} {d : Diverter} {change : Record → Record}
    {s t : State} {r : Record} (hr : findRecord s p.key = some r) (hc : ∀ a, (change a).key = a.key)
    (ht : t.store = (divertedOut p gate d change s).store) : findRecord t p.key = some (change r) := by
  rw [findRecord, ht]
  exact findRecord_updateRecord_same p.key change hc hr

/-- A piece that departs from the diverter to EXCEPTION. -/
theorem depart_listed {p : Piece} {r : Record} {why : Disposition} {cause : Option DefectCause}
    {d : Diverter} {change : Record → Record} {s t : State} (hs : s.units.length = 19)
    (hr : findRecord s p.key = some r) (hc : ∀ a, (change a).key = a.key)
    (ht : t = depart r (exceptionListed p r why cause (divertedOut p 17 d change s))) :
    (pieceNumbered t p.number = none ∧ (unitAt t 17).ordered = true) ∧ t.diverter = d
      ∧ ∃ q, findRecord t p.key = some q ∧ q.SameBut (change r) := by
  have hd := depart_table r (exceptionListed p r why cause (divertedOut p 17 d change s))
  rw [← ht] at hd
  refine ⟨divertedOut_gone (s := s) (by rw [hs]; decide) (by rw [hd.tracking]; rfl)
    (by rw [hd.units]; rfl), hd.diverter, ?_⟩
  exact hd.record p.key (change r) (by simp [exceptionListed])
    (findRecord_divertedOut (d := d) (gate := 17) hr hc rfl)

theorem Record.SameBut.values {q r : Record} (h : q.SameBut r) : q.state = r.state
    ∧ q.disposition = r.disposition ∧ q.remakeCount = r.remakeCount ∧ q.lastDefect = r.lastDefect := by
  unfold Record.SameBut at h
  rw [h]
  exact ⟨rfl, rfl, rfl, rfl⟩

/-! ### The pieces that pass (R123, R125) -/

theorem passOn_eq (p : Piece) (s : State) : passOn p s = lookAheadAtDiverter p
    { s with
      tracking :=
        { s.tracking with
          pieces := s.tracking.pieces.map (fun q =>
            if q.number = p.number then q.passed .passing else q) }
      diverter := { s.diverter with passed := raise top16 s.diverter.passed } } := rfl

theorem passClaiming_eq (p : Piece) (s : State) : passClaiming p s = lookAheadAtDiverter p
    { s with
      tracking :=
        { s.tracking with
          pieces := s.tracking.pieces.map (fun q => if q.number = p.number then
            { q with claim := true }.passed .passing else q) }
      stacker :=
        { s.stacker with
          bundles := s.stacker.bundles.map (fun b => if b.number = p.bundle then
            { b with claim := true } else b) }
      diverter :=
        { s.diverter with
          passed := raise top16 s.diverter.passed
          claims := raise top16 s.diverter.claims } } := by
  have hp : passStep p.number .passing (updatePiece p.number (fun q => { q with claim := true }) s)
      = updatePiece p.number (fun q => { q with claim := true }.passed .passing) s :=
    updatePiece_updatePiece p.number (Piece.passed .passing) (fun q => { q with claim := true })
      (fun _ => rfl) s
  rw [passClaiming, hp]
  rfl

section Arrival
variable {s : State} {p : Piece} {r : Record} (hp : pieceAt s s.geometry.d = some p)
  (hr : findRecord s p.key = some r)
include hp hr

theorem diverterArrival_eq : diverterArrival s = divert p r s := by
  simp only [diverterArrival, hp, hr]

theorem diverterArrival_withdrawn (hw : r.withdrawPending = true) :
    diverterArrival s = rejectWithdrawn p r s := by
  rw [diverterArrival_eq hp hr, divert, if_pos hw]

section Fit
variable (hw : r.withdrawPending = false)
include hw

theorem diverterArrival_defect {d : Defect} {ds : List Defect} (hd : p.defects = d :: ds) :
    diverterArrival s = if r.remakeCount < s.diverter.remakeLimit then rejectRemade p (some d.cause) s
      else rejectSpoiled p r (some d.cause) s := by
  rw [diverterArrival_eq hp hr, divert, if_neg (by simp [hw]), if_pos (by simp [hd]), hd]
  rfl

theorem diverterArrival_held (hd : p.defects = [])
    (hb : (findBundle s p.bundle).map (fun b => b.state) = some .held) :
    diverterArrival s = passClaiming p s := by
  rw [diverterArrival_eq hp hr, divert, if_neg (by simp [hw]), if_neg (by simp [hd]), hb]

theorem diverterArrival_open (hd : p.defects = [])
    (hb : (findBundle s p.bundle).map (fun b => b.state) = some .forming
      ∨ (findBundle s p.bundle).map (fun b => b.state) = some .filling) :
    diverterArrival s = passOn p s := by
  rw [diverterArrival_eq hp hr, divert, if_neg (by simp [hw]), if_neg (by simp [hd])]
  rcases hb with hb | hb <;> rw [hb]

theorem diverterArrival_late (hd : p.defects = [])
    (hb : (findBundle s p.bundle).map (fun b => b.state) = some .ejecting
      ∨ (findBundle s p.bundle).map (fun b => b.state) = some .closed
      ∨ (findBundle s p.bundle).map (fun b => b.state) = none) :
    diverterArrival s = handOut p s := by
  rw [diverterArrival_eq hp hr, divert, if_neg (by simp [hw]), if_neg (by simp [hd])]
  rcases hb with hb | hb | hb <;> rw [hb]

end Fit
end Arrival

/-- Settles O51. -/
theorem diverterDecidesTheArrival : Obligations.DiverterDecidesTheArrival := by
  unfold Obligations.DiverterDecidesTheArrival
  refine ⟨fun s h => by simp only [diverterArrival, h], fun s p r hp hr hs => ?_⟩
  intro t raised gone bundle out listed look
  refine ⟨fun hw => ?withdrawn, fun hw d ds hd => ⟨fun hl => ?remade, fun hl => ?spoiled⟩,
    fun hw hd => ⟨fun hb => ?claims, fun hb => ?passes, fun hb => ?hand⟩⟩
  case withdrawn =>
    have ht : t = depart r (listed .withdrawn none (out 17
        { s.diverter with withdrawn := raised s.diverter.withdrawn }
        (fun a => { a with state := .exception, disposition := some .withdrawn }))) :=
      (diverterArrival_withdrawn hp hr hw).trans (rejectWithdrawn_eq hr)
    obtain ⟨hgone, hdiv, q, hq, hsame⟩ := depart_listed hs hr (by exact fun _ => rfl) ht
    obtain ⟨h1, h2, h3, h4⟩ := hsame.values
    exact ⟨ht, hgone, hdiv, q, hq, h1, h2, h3, h4⟩
  case remade =>
    intro back
    have ht := diverterArrival_defect hp hr hw hd
    rw [if_pos hl, rejectRemade_eq] at ht
    refine ⟨ht, divertedOut_gone (s := s) (by rw [hs]; decide) (congrArg (fun u => u.tracking.pieces) ht)
      (congrArg State.units ht), _, findRecord_divertedOut (s := s) (t := t) (gate := 17)
        (d := { s.diverter with remade := raise top16 s.diverter.remade })
        (change := fun a =>
          { a with
            lastDefect := some d.cause
            remakeCount := a.remakeCount + 1
            state := .queued
            kind := .remake }) hr (fun _ => rfl) (by rw [show t = _ from ht]),
      rfl, rfl, rfl, rfl, rfl, rfl⟩
  case spoiled =>
    have ht := diverterArrival_defect hp hr hw hd
    rw [if_neg (Nat.not_lt.mpr hl), rejectSpoiled_eq hr] at ht
    obtain ⟨hgone, hdiv, q, hq, hsame⟩ := depart_listed hs hr (by exact fun _ => rfl) ht
    obtain ⟨h1, h2, h3, h4⟩ := hsame.values
    exact ⟨ht, hgone, hdiv, q, hq, h1, h2, h3, h4⟩
  case claims =>
    exact (diverterArrival_held hp hr hw hd hb).trans (passClaiming_eq p s)
  case passes =>
    exact (diverterArrival_open hp hr hw hd hb).trans (passOn_eq p s)
  case hand =>
    have ht := (diverterArrival_late hp hr hw hd hb).trans (handOut_eq hr)
    exact ⟨ht, divertedOut_gone (s := s) (by rw [hs]; decide)
      (congrArg (fun u => u.tracking.pieces) ht) (congrArg State.units ht)⟩

end Sys2Proof.Machine

/-! PROOF. The stacker arrival: the look-ahead, the piece that joins its bundle or is late, displacement and
the end of a claim: O52. -/

namespace Sys2Proof.Machine

/-! ### The pocket look-ahead (R134) -/

section LookAhead
variable {n : Nat} {s : State}

theorem lookAheadFor_idle
    (h : ∀ b, findBundle s n = some b → b.state ≠ .forming ∨ b.pocket ≠ none) : lookAheadFor n s = s := by
  unfold lookAheadFor
  split
  · rfl
  next b hb => exact if_neg fun ⟨hs, hp⟩ => (h b hb).elim (fun k => k hs) (fun k => k hp)

/-- A FORMING bundle without a pocket, which its look-ahead is for. -/
def NeedsPocket (s : State) (n : Nat) : Prop :=
  ∃ b, findBundle s n = some b ∧ b.state = .forming ∧ b.pocket = none

theorem lookAheadFor_reserves (h : NeedsPocket s n) {k : PocketId} (hk : choosePocket s = some k) :
    lookAheadFor n s = reserve k n s := by
  obtain ⟨b, hb, hs, hp⟩ := h
  simp only [lookAheadFor, hb, hs, hp, true_and, if_true, hk]

theorem reserve_eq (k : PocketId) (n : Nat) (s : State) : reserve k n s =
    { s with
      stacker :=
        { s.stacker with
          bundles := s.stacker.bundles.map (fun b =>
            if b.number = n then { b with pocket := some k } else b)
          lastReserved := some k
          request := if s.stacker.request = some n then none else s.stacker.request }
      holds :=
        if s.stacker.request = some n then
          { s.holds with causes := { s.holds.causes with pocketWait := false } }
        else s.holds } := by
  have e : reserve k n s = if s.stacker.request = some n then
      clearRequest (updateBundle n (fun b => { b with pocket := some k })
        { s with stacker := { s.stacker with lastReserved := some k } })
    else updateBundle n (fun b => { b with pocket := some k })
      { s with stacker := { s.stacker with lastReserved := some k } } := rfl
  rw [e]
  by_cases h : s.stacker.request = some n
  · rw [if_pos h, if_pos h, if_pos h]
    rfl
  · rw [if_neg h, if_neg h, if_neg h]
    rfl

theorem lookAheadFor_asks (h : NeedsPocket s n) (ha : pocketState s .a ≠ .free)
    (hb : pocketState s .b ≠ .free) : lookAheadFor n s =
      let asked : State := { s with stacker := { s.stacker with request := some n } }
      let forced := (forceChoice asked).elim asked (fun m => closeBundle m .forced asked)
      if pocketState forced .a = .ejecting ∨ pocketState forced .b = .ejecting then raisePocketWait forced
      else forced := by
  obtain ⟨b, hf, hs, hp⟩ := h
  have hk : choosePocket s = none :=
    Option.isNone_iff_eq_none.mp ((choosePocket_isNone_iff s).mpr ⟨ha, hb⟩)
  simp only [lookAheadFor, hf, hs, hp, true_and, if_true, hk]
  cases forceChoice { s with stacker := { s.stacker with request := some n } } <;> rfl

end LookAhead

/-! ### Displacement and the end of a claim (R139, R141) -/

section Displace
variable {k : PocketId} {s : State}

theorem displace_still (h : ∀ b, bundleIn s (otherPocket k) = some b → b.state ≠ .filling) :
    displace k s = s := by
  unfold displace
  split
  · rfl
  next b hb => exact if_neg (h b hb)

variable {b : Bundle} (hb : bundleIn s (otherPocket k) = some b) (hs : b.state = .filling)
include hb hs

theorem displace_complete
    (h : b.final = true ∧ 1 ≤ b.stackedCount ∧ b.stackedCount = b.plannedCount) :
    displace k s = closeBundle b.number .planned s := by
  simp only [displace, hb, if_pos hs, if_pos ((isComplete_iff b).mpr h)]

theorem displace_expired
    (h : ¬(b.final = true ∧ 1 ≤ b.stackedCount ∧ b.stackedCount = b.plannedCount))
    (hl : s.stacker.holdLimit = 0) : displace k s = closeBundle b.number .holdExpired s := by
  simp only [displace, hb, if_pos hs, if_neg (mt (isComplete_iff b).mp h), if_pos hl]

theorem displace_held
    (h : ¬(b.final = true ∧ 1 ≤ b.stackedCount ∧ b.stackedCount = b.plannedCount))
    (hl : s.stacker.holdLimit ≠ 0) : displace k s = becomeHeld b.number s := by
  simp only [displace, hb, if_pos hs, if_neg (mt (isComplete_iff b).mp h), if_neg hl]

end Displace

section EndClaim
variable {n : Nat} {s : State}

/-- The claim on a HELD bundle ends: none of its pieces claims it. -/
def ClaimEnds (s : State) (n : Nat) : Prop :=
  (∃ b, findBundle s n = some b ∧ b.state = .held)
    ∧ ∀ p ∈ s.tracking.pieces, p.bundle = n → p.claim = false

theorem noClaim_iff (s : State) (n : Nat) : (¬ s.tracking.pieces.any (fun p => p.claim && p.bundle == n) = true)
    ↔ ∀ p ∈ s.tracking.pieces, p.bundle = n → p.claim = false := by
  simp only [List.any_eq_true, Bool.and_eq_true, beq_iff_eq, not_exists, not_and]
  exact forall_congr' fun p => imp_congr_right fun _ => by
    cases p.claim <;> simp

theorem endClaim_still (h : ¬ ClaimEnds s n) : endClaim n s = s := by
  unfold endClaim
  split
  · rfl
  next b hb => exact if_neg fun ⟨hs, hc⟩ => h ⟨⟨b, hb, hs⟩, (noClaim_iff s n).mp hc⟩

theorem endClaim_ends (h : ClaimEnds s n) : endClaim n s = forceForRequest n
    (updateBundle n (fun b => { b with claim := false, holdStart := some s.line.pitch }) s) := by
  obtain ⟨⟨b, hb, hs⟩, hc⟩ := h
  simp only [endClaim, hb]
  exact if_pos ⟨hs, (noClaim_iff s n).mpr hc⟩

end EndClaim

/-! ### Records beside the queue -/

theorem findRecord_closeBundle {k : Nat} {s : State} (hk : k ∉ s.queue.order) (n : Nat) (w : CloseReason) :
    findRecord (closeBundle n w s) k = findRecord s k := by
  cases hb : findBundle s n with
  | none => rw [closeBundle, hb]
  | some b =>
    have hkey (r : Record) : (if r.key ∈ lateKeys s n then
        { r with state := .exception, disposition := some .lateUnmade } else r : Record).key = r.key := by
      split <;> rfl
    rw [closeBundle_effect w hb]
    refine (findRecord_mapRecords _ hkey k s).trans ?_
    cases hr : findRecord s k with
    | none => rfl
    | some r =>
      rw [Option.map_some, if_neg]
      rw [findRecord_key hr]
      exact fun h => hk (lateKeys_mem h)

theorem findRecord_lookAheadFor {k : Nat} {s : State} (hk : k ∉ s.queue.order) (n : Nat) :
    findRecord (lookAheadFor n s) k = findRecord s k := by
  by_cases h : NeedsPocket s n
  · cases hc : choosePocket s with
    | some p => rw [lookAheadFor_reserves h hc, reserve_eq]; rfl
    | none =>
      obtain ⟨ha, hb⟩ := (choosePocket_isNone_iff s).mp (by rw [hc]; rfl)
      rw [lookAheadFor_asks h ha hb]
      have hforced : findRecord ((forceChoice { s with stacker := { s.stacker with request := some n } }).elim
          { s with stacker := { s.stacker with request := some n } }
          (fun m => closeBundle m .forced { s with stacker := { s.stacker with request := some n } })) k
            = findRecord s k := by
        cases forceChoice { s with stacker := { s.stacker with request := some n } } with
        | none => rfl
        | some m =>
          exact findRecord_closeBundle (s := { s with stacker := { s.stacker with request := some n } }) hk
            m .forced
      dsimp only
      split
      · exact hforced
      · exact hforced
  · rw [lookAheadFor_idle fun b hb => ?_]
    by_contra hn
    obtain ⟨hs, hp⟩ := not_or.mp hn
    exact h ⟨b, hb, not_not.mp hs, not_not.mp hp⟩

/-! ### One bundle through closes, tests and claims -/

theorem findBundle_closeBundle (n m : Nat) (w : CloseReason) (s : State) :
    findBundle (closeBundle n w s) m
      = (findBundle s m).map (fun c => if c.number = n then c.closedWith w else c) := by
  cases hb : findBundle s n with
  | none =>
    rw [closeBundle, hb]
    cases hm : findBundle s m with
    | none => rfl
    | some c =>
      have hne : c.number ≠ n := fun k => by
        rw [← k, findBundle_number hm, hm] at hb
        cases hb
      rw [Option.map_some, if_neg hne]
  | some b =>
    rw [findBundle, closeBundle_bundles w hb]
    exact find?_map_key (fun c : Bundle => c.number) _ (fun c => by split <;> rfl) m _

theorem findBundle_closeBundle_same {n : Nat} {s : State} {c : Bundle} (h : findBundle s n = some c)
    (w : CloseReason) : findBundle (closeBundle n w s) n = some (c.closedWith w) := by
  rw [findBundle_closeBundle, h, Option.map_some, if_pos (findBundle_number h)]

theorem findBundle_closeBundle_other {n m : Nat} (h : m ≠ n) (w : CloseReason) (s : State) :
    findBundle (closeBundle n w s) m = findBundle s m := by
  rw [findBundle_closeBundle]
  cases hm : findBundle s m with
  | none => rfl
  | some c => rw [Option.map_some, if_neg (by rw [findBundle_number hm]; exact h)]

theorem findBundle_forceForRequest_other {n m : Nat} (h : m ≠ n) (s : State) :
    findBundle (forceForRequest n s) m = findBundle s m := by
  unfold forceForRequest
  split
  · exact findBundle_closeBundle_other h _ s
  · rfl

theorem findBundle_forceForRequest_same {n : Nat} {s : State} {c : Bundle} (h : findBundle s n = some c) :
    findBundle (forceForRequest n s) n = some c
      ∨ findBundle (forceForRequest n s) n = some (c.closedWith .forced) := by
  unfold forceForRequest
  split
  · exact .inr (findBundle_closeBundle_same h _)
  · exact .inl h

/-- A displacement leaves every bundle but that of the other pocket. -/
theorem findBundle_displace {k : PocketId} {m : Nat} {s : State}
    (h : ∀ b, bundleIn s (otherPocket k) = some b → m ≠ b.number) :
    findBundle (displace k s) m = findBundle s m := by
  unfold displace
  split
  · rfl
  next b hb =>
    have hm := h b hb
    split
    · split
      · exact findBundle_closeBundle_other hm _ s
      · split
        · exact findBundle_closeBundle_other hm _ s
        · rw [becomeHeld, findBundle_forceForRequest_other hm,
            findBundle_updateBundle_other (fun b => { b with
              state := .held, holdStart := some s.line.pitch, claim := false }) (fun _ => rfl) hm]
    · rfl

/-- A bundle that keeps its members and does not return to FORMING. -/
structure Bundle.KeepsMembers (b c : Bundle) : Prop where
  members : c.members = b.members
  stackedCount : c.stackedCount = b.stackedCount
  stackedMass : c.stackedMass = b.stackedMass
  state : b.state ≠ .forming → c.state ≠ .forming

theorem Bundle.KeepsMembers.refl (b : Bundle) : b.KeepsMembers b := ⟨rfl, rfl, rfl, id⟩

theorem Bundle.KeepsMembers.trans {a b c : Bundle} (h : a.KeepsMembers b) (k : b.KeepsMembers c) :
    a.KeepsMembers c :=
  ⟨k.members.trans h.members, k.stackedCount.trans h.stackedCount, k.stackedMass.trans h.stackedMass,
    fun j => k.state (h.state j)⟩

theorem Bundle.keepsMembers_closedWith (b : Bundle) (w : CloseReason) :
    b.KeepsMembers (b.closedWith w) := ⟨rfl, rfl, rfl, fun _ => by simp [Bundle.closedWith]⟩

theorem findBundle_completionTest {n : Nat} {s : State} {b : Bundle} (h : findBundle s n = some b) :
    ∃ c, findBundle (completionTest n s) n = some c ∧ b.KeepsMembers c
      ∧ ((b.state = .filling ∨ b.state = .held) → b.final = true → 1 ≤ b.stackedCount →
        b.stackedCount = b.plannedCount → c = b.closedWith .planned) := by
  by_cases hc : (b.state = .filling ∨ b.state = .held) ∧ b.final = true ∧ 1 ≤ b.stackedCount
      ∧ b.stackedCount = b.plannedCount
  · rw [completionTest_of_complete h hc]
    exact ⟨_, findBundle_closeBundle_same h _, b.keepsMembers_closedWith _, fun _ _ _ _ => rfl⟩
  · rw [completionTest_of_not_complete h hc]
    exact ⟨b, h, .refl b, fun h1 h2 h3 h4 => absurd ⟨h1, h2, h3, h4⟩ hc⟩

theorem findBundle_endClaim {n : Nat} {s : State} {b : Bundle} (h : findBundle s n = some b) :
    ∃ c, findBundle (endClaim n s) n = some c ∧ b.KeepsMembers c ∧ (b.state ≠ .held → c = b) := by
  by_cases hc : ClaimEnds s n
  · have hheld : b.state = .held := by
      obtain ⟨⟨d, hd, hs⟩, -⟩ := hc
      rw [h] at hd
      exact Option.some.inj hd ▸ hs
    rw [endClaim_ends hc]
    have hu := findBundle_updateBundle_same n (fun b => { b with
      claim := false, holdStart := some s.line.pitch }) (fun _ => rfl) h
    rcases findBundle_forceForRequest_same hu with hf | hf
    · exact ⟨_, hf, ⟨rfl, rfl, rfl, id⟩, fun k => absurd hheld k⟩
    · exact ⟨_, hf, ⟨rfl, rfl, rfl, fun _ => by simp [Bundle.closedWith]⟩, fun k => absurd hheld k⟩
  · rw [endClaim_still hc]
    exact ⟨b, h, .refl b, fun _ => rfl⟩

/-! ### The piece that joins its bundle (R139, R142) -/

/-- A piece off the table at the stacker, its record in a new state (R87). -/
def pieceLeft (p : Piece) (state : RecordState) (d : Option Disposition) (v : State) : State :=
  { v with
    store := v.store.map (fun a => if a.key = p.key then
      { a with state := state, disposition := d.or a.disposition } else a)
    tracking := { v.tracking with pieces := v.tracking.pieces.filter (fun q => q.number ≠ p.number) }
    carrier := { v.carrier with jobs := v.carrier.jobs.filter (fun j => j ≠ p.number) }
    verify :=
      { v.verify with
        previous := if v.verify.previous = some p.number then none else v.verify.previous } }

/-- The piece has joined its bundle, before the tests that follow. -/
def pieceJoined (p : Piece) (r : Record) (u : State) : State := pieceLeft p .stacked none
  { u with
    stacker :=
      { u.stacker with
        bundles := u.stacker.bundles.map (fun c => if c.number = p.bundle then
          { c with
            members := c.members ++ [p.key]
            stackedCount := c.stackedCount + 1
            stackedMass := c.stackedMass + r.nominalMass
            state := if c.state = .forming then .filling else c.state } else c) } }

theorem stackPiece_eq {p : Piece} {r : Record} {b : Bundle} {u : State} (k : PocketId)
    (hb : b.number = p.bundle) (hr : findRecord u p.key = some r) : stackPiece p b k u =
      let tested := completionTest p.bundle
        (if b.state = .forming then displace k (pieceJoined p r u) else pieceJoined p r u)
      if p.claim = true then endClaim p.bundle tested else tested := by
  rw [stackPiece, hr, hb]
  rfl

theorem findBundle_pieceJoined {p : Piece} (r : Record) {b : Bundle} {u : State}
    (hb : findBundle u p.bundle = some b) : findBundle (pieceJoined p r u) p.bundle
      = some (b.withMember p.key r.nominalMass) :=
  findBundle_updateBundle_same p.bundle (Bundle.withMember p.key r.nominalMass) (fun _ => rfl) hb

/-- The bundle of the other pocket is another bundle. -/
theorem other_pocket_other {p : Piece} {r : Record} {b d : Bundle} {u : State} {k : PocketId}
    (hs : BundleSafe u) (hb : findBundle u p.bundle = some b) (hk : b.pocket = some k)
    (hd : bundleIn (pieceJoined p r u) (otherPocket k) = some d) : p.bundle ≠ d.number := by
  intro hn
  have hnodup : ((pieceJoined p r u).stacker.bundles.map (fun b => b.number)).Nodup := by
    have e : (pieceJoined p r u).stacker.bundles.map (fun b => b.number)
        = u.stacker.bundles.map (fun b => b.number) := map_number (fun b => by split <;> rfl) _
    rw [e]
    exact hs.1
  have hf := findBundle_of_mem hnodup (bundleIn_mem hd)
  rw [← hn, findBundle_pieceJoined r hb] at hf
  have hpocket : d.pocket = some k := by
    rw [← Option.some.inj hf]
    exact hk
  have hother : d.pocket = some (otherPocket k) := by simpa using List.find?_some hd
  rw [hpocket] at hother
  cases k <;> cases hother

section Stack
variable {p : Piece} {r : Record} {b : Bundle} {u : State} {k : PocketId}
  (hb : findBundle u p.bundle = some b) (hr : findRecord u p.key = some r)
include hb hr

theorem stackPiece_table : TableStep (pieceJoined p r u) (stackPiece p b k u) := by
  have hd : TableStep (pieceJoined p r u)
      (if b.state = .forming then displace k (pieceJoined p r u) else pieceJoined p r u) :=
    TableStep.ite _ (displace_table k _) (.refl _)
  rw [stackPiece_eq k (findBundle_number hb) hr]
  exact TableStep.ite _ ((hd.trans (completionTest_table _ _)).trans (endClaim_table _ _))
    (hd.trans (completionTest_table _ _))

/-- The piece is gone and its record STACKED. -/
theorem stackPiece_leaves (hq : p.key ∉ u.queue.order) :
    pieceNumbered (stackPiece p b k u) p.number = none
      ∧ ∃ q, findRecord (stackPiece p b k u) p.key = some q ∧ q.state = .stacked := by
  have ht := stackPiece_table (k := k) hb hr
  refine ⟨?_, ?_⟩
  · rw [pieceNumbered_eq_none, ht.tracking]
    simp [pieceJoined, pieceLeft]
  · have hj : findRecord (pieceJoined p r u) p.key = some { r with state := .stacked } :=
      findRecord_updateRecord_same p.key (fun a => { a with state := .stacked }) (fun _ => rfl) hr
    obtain ⟨q, hf, hsame⟩ := ht.record p.key _ hq hj
    exact ⟨q, hf, hsame.values.1⟩

/-- The bundle that a piece has joined, after the displacement and the tests of the act. -/
theorem findBundle_stackPiece (hs : BundleSafe u) (hk : b.pocket = some k)
    (hst : b.state = .forming ∨ b.state = .filling ∨ b.state = .held) :
    ∃ c, findBundle (stackPiece p b k u) p.bundle = some c
      ∧ (b.withMember p.key r.nominalMass).KeepsMembers c ∧ c.state ≠ .forming
      ∧ (b.final = true → b.plannedCount = b.stackedCount + 1 →
        c = (b.withMember p.key r.nominalMass).closedWith .planned) := by
  have hjoined : findBundle (if b.state = .forming then displace k (pieceJoined p r u)
      else pieceJoined p r u) p.bundle = some (b.withMember p.key r.nominalMass) := by
    split
    · rw [findBundle_displace fun d hd => other_pocket_other hs hb hk hd, findBundle_pieceJoined r hb]
    · exact findBundle_pieceJoined r hb
  have hopen : (b.withMember p.key r.nominalMass).state = .filling
      ∨ (b.withMember p.key r.nominalMass).state = .held := by
    rcases hst with h | h | h <;> simp [Bundle.withMember, h]
  have hform : (b.withMember p.key r.nominalMass).state ≠ .forming := by
    rcases hopen with h | h <;> rw [h] <;> decide
  obtain ⟨c, hc, hkeep, hclose⟩ := findBundle_completionTest hjoined
  rw [stackPiece_eq k (findBundle_number hb) hr]
  dsimp only
  have hclosed (hf : b.final = true) (hn : b.plannedCount = b.stackedCount + 1) :
      c = (b.withMember p.key r.nominalMass).closedWith .planned :=
    hclose hopen hf (Nat.le_add_left 1 _) hn.symm
  split
  · obtain ⟨e, he, hkeep', hstay⟩ := findBundle_endClaim hc
    refine ⟨e, he, hkeep.trans hkeep', (hkeep.trans hkeep').state hform, fun hf hn => ?_⟩
    have := hclosed hf hn
    rw [hstay (by rw [this]; simp [Bundle.closedWith]), this]
  · exact ⟨c, hc, hkeep, hkeep.state hform, hclosed⟩

end Stack

/-! ### The late piece (R141) -/

/-- The state in which a late piece has left the table and stands in the exception list. -/
def pieceLate (p : Piece) (r : Record) (v : State) : State := pieceLeft p .exception (some .lateMade)
  { v with
    stacker :=
      { v.stacker with
        exceptions := v.stacker.exceptions
          ++ [ExceptionEntry.mk p.key .lateMade none (some p.number) r.remakeCount]
        lateCount :=
          if v.stacker.lateCount < 65535 then v.stacker.lateCount + 1 else v.stacker.lateCount } }

theorem latePiece_eq {p : Piece} {r : Record} {v : State} (hr : findRecord v p.key = some r)
    (hq : p.key ∉ v.queue.order) (departs : Bool) :
    latePiece p departs v = if departs = true then depart r (pieceLate p r v) else pieceLate p r v := by
  have hqueue : v.queue.order.filter (fun k => decide (k ≠ p.key)) = v.queue.order :=
    List.filter_eq_self.mpr fun k hk => decide_eq_true fun e => hq (e ▸ hk)
  have hlate : ({ enterException p.key .lateMade none (some p.number) (removePiece p.number v) with
      stacker :=
        { (enterException p.key .lateMade none (some p.number) (removePiece p.number v)).stacker with
          lateCount := raise top16 (enterException p.key .lateMade none (some p.number)
            (removePiece p.number v)).stacker.lateCount } } : State) = pieceLate p r v := by
    rw [enterException_eq (s := removePiece p.number v) hr]
    have hqueue' : (removePiece p.number v).queue.order.filter (fun k => decide (k ≠ p.key))
        = v.queue.order := hqueue
    rw [hqueue']
    rfl
  cases departs
  · simp only [latePiece]
    exact hlate
  · simp only [latePiece, hr, if_true]
    rw [hlate]

section Arrival
variable {s : State} {p : Piece} (hp : pieceAt s s.geometry.s = some p)
include hp

theorem stackerArrival_eq : stackerArrival s = stackOrLate p (lookAheadFor p.bundle s) := by
  simp only [stackerArrival, hp]

theorem stackerArrival_joins {b : Bundle} {k : PocketId}
    (hb : findBundle (lookAheadFor p.bundle s) p.bundle = some b) (hk : b.pocket = some k)
    (hst : b.state = .forming ∨ b.state = .filling ∨ b.state = .held) :
    stackerArrival s = stackPiece p b k (lookAheadFor p.bundle s) := by
  have ht : b.state.takes = true := by rcases hst with h | h | h <;> rw [h] <;> rfl
  rw [stackerArrival_eq hp]
  simp only [stackOrLate, hb, ht, if_true, hk]

theorem stackerArrival_late (h : (findBundle s p.bundle).all (fun b => b.state = .ejecting
    || b.state = .closed) = true) : stackerArrival s = latePiece p false s := by
  have hlook : lookAheadFor p.bundle s = s := by
    refine lookAheadFor_idle fun b hb => .inl fun k => ?_
    rw [hb, Option.all_some, k] at h
    exact absurd h (by decide)
  rw [stackerArrival_eq hp, hlook, stackOrLate]
  split
  · rfl
  next b hb =>
    rw [hb, Option.all_some, Bool.or_eq_true, decide_eq_true_iff, decide_eq_true_iff] at h
    refine if_neg ?_
    rcases h with h | h <;> rw [h] <;> decide

theorem stackerArrival_no_pocket {b : Bundle}
    (hb : findBundle (lookAheadFor p.bundle s) p.bundle = some b) (hk : b.pocket = none)
    (hst : b.state = .forming) : stackerArrival s = latePiece p true (lookAheadFor p.bundle s) := by
  rw [stackerArrival_eq hp]
  simp only [stackOrLate, hb, hst, BundleState.takes, if_true, hk, decide_true]

end Arrival

/-- Settles O52. -/
theorem stackerTakesOrExceptsThePiece : Obligations.StackerTakesOrExceptsThePiece := by
  unfold Obligations.StackerTakesOrExceptsThePiece
  refine ⟨fun s p r hp hr hq hs => ?arrival, fun n s => ?look, fun k s => ?displace, fun n s => ?claim⟩
  case arrival =>
    intro t u left late
    have hru : findRecord u p.key = some r := (findRecord_lookAheadFor hq p.bundle).trans hr
    have hqu : p.key ∉ u.queue.order := (lookAheadFor_table p.bundle s).unqueued p.key hq
    refine ⟨fun b k hb hk hst => ?_, fun b k hb hk hst => ?_, fun h => ?_, fun b hb hk hst => ?_⟩
    · have hlook : lookAheadFor p.bundle s = s := lookAheadFor_idle fun c hc => .inr (by
        rw [hb] at hc
        rw [← Option.some.inj hc, hk]
        exact Option.some_ne_none k)
      have ht : t = stackPiece p b k s := by
        refine (stackerArrival_joins hp (by rw [hlook]; exact hb) hk hst).trans ?_
        rw [hlook]
      clear_value t
      subst ht
      obtain ⟨hgone, hrecord⟩ := stackPiece_leaves (k := k) hb hr hq
      obtain ⟨c, hc, hkeep, hform, hclosed⟩ := findBundle_stackPiece hb hr hs hk hst
      refine ⟨hgone, hrecord, c, by rw [findBundle_number hb]; exact hc, hkeep.members, hkeep.stackedCount,
        hkeep.stackedMass, hform, fun hf hn => ?_⟩
      rw [hclosed hf hn]
      exact ⟨rfl, rfl, decide_eq_false (by simp [Bundle.withMember, hn])⟩
    · exact (stackerArrival_joins hp hb hk hst).trans (stackPiece_eq k (findBundle_number hb) hru)
    · exact (stackerArrival_late hp h).trans (latePiece_eq hr hq false)
    · exact (stackerArrival_no_pocket hp hb hk hst).trans (latePiece_eq hru hqu true)
  case look =>
    intro idle needs chosen asked forced
    refine ⟨lookAheadFor_idle, fun hn k hk => ?_, fun hn ha hb => lookAheadFor_asks hn ha hb,
      fun hg p hp => ?_, fun h => ?_⟩
    · exact (lookAheadFor_reserves hn (choosePocket_eq_some hk.1 hk.2)).trans (reserve_eq k n s)
    · simp only [lookAheadAtMark, if_neg hg, hp]
    · unfold lookAheadAtMark
      rcases h with h | h
      · exact if_pos h
      · rw [h]
        split <;> rfl
  case displace =>
    refine ⟨displace_still, fun b hb hs => ?_⟩
    intro complete
    exact ⟨displace_complete hb hs, displace_expired hb hs, displace_held hb hs⟩
  case claim =>
    intro ends
    exact ⟨endClaim_still, endClaim_ends⟩

end Sys2Proof.Machine

/-! PROOF. LOAD: the checks of one record, the accepted records, and the lines of a text: O30. -/

namespace Sys2Proof.Machine

/-! ### The lines of a text (R196) -/

theorem splitLines_ne_nil (t : List Symbol) : splitLines t ≠ [] := by
  cases t with
  | nil => exact List.cons_ne_nil _ _
  | cons c cs =>
    unfold splitLines
    split
    · exact List.cons_ne_nil _ _
    · split <;> exact List.cons_ne_nil _ _

/-- A text whose rest has a first line and others. -/
theorem splitLines_cons {c : Symbol} {cs line : List Symbol} {rest : List (List Symbol)}
    (h : splitLines cs = line :: rest) : splitLines (c :: cs) =
      if c = 0x7F#7 then [] :: line :: rest else (c :: line) :: rest := by
  rw [splitLines, h]

theorem splitLines_lines (t : List Symbol) : (∀ l ∈ splitLines t, 0x7F#7 ∉ l)
    ∧ (List.intersperse [0x7F#7] (splitLines t)).flatten = t := by
  induction t with
  | nil => simp [splitLines]
  | cons c cs ih =>
    obtain ⟨line, rest, h⟩ := List.exists_cons_of_ne_nil (splitLines_ne_nil cs)
    obtain ⟨hl, hf⟩ := ih
    rw [h] at hl hf
    rw [splitLines_cons h]
    have hline := hl line List.mem_cons_self
    have hrest (l : List Symbol) (hm : l ∈ rest) := hl l (List.mem_cons_of_mem _ hm)
    split
    · next hc =>
      subst hc
      refine ⟨fun l hm => ?_, ?_⟩
      · rcases List.mem_cons.mp hm with rfl | hm
        · exact List.not_mem_nil
        · exact hl l hm
      · simpa using hf
    · next hc =>
      refine ⟨fun l hm => ?_, ?_⟩
      · rcases List.mem_cons.mp hm with rfl | hm
        · simp [hline, Ne.symm hc]
        · exact hrest l hm
      · cases rest with
        | nil => simpa using hf
        | cons m rest => simpa using hf

/-! ### The checks of one record (R11) -/

/-- The form of a record of LOAD. -/
def LoadFormed (r : LoadRecord) (g : Geometry) : Prop :=
  r.key ≠ 0 ∧ r.route ≤ 999999
    ∧ ((splitLines r.text).length ≤ 6 ∧ (∀ l ∈ splitLines r.text, l.length ≤ 40)
        ∧ ∀ c ∈ r.text, 0x20 ≤ c.toNat)
    ∧ ∀ i, i < 6 → r.version.getLsbD i = true → g.fitted.getLsbD i = true

/-- A record behind the last one loaded, on a route that has not ended. -/
def LoadOrdered (r : LoadRecord) (q : Queue) : Prop :=
  (∀ k, q.lastKey = some k → k.route < r.route ∨ (k.route = r.route ∧ k.sequence < r.sequence))
    ∧ q.lastEnded ≠ some r.route

theorem loadRangeCheck_iff (r : LoadRecord) (g : Geometry) :
    (!(r.key != 0 && decide (r.route ≤ 999999) && textInForm r.text && versionFitted g r.version)) = true
      ↔ ¬ LoadFormed r g := by
  have htext : textInForm r.text = true ↔ (splitLines r.text).length ≤ 6
      ∧ (∀ l ∈ splitLines r.text, l.length ≤ 40) ∧ ∀ c ∈ r.text, 0x20 ≤ c.toNat := by
    simp only [textInForm, Bool.and_eq_true, List.all_eq_true, decide_eq_true_eq]
    tauto
  simp only [LoadFormed, Bool.not_eq_true', ← Bool.not_eq_true, Bool.and_eq_true, bne_iff_ne,
    decide_eq_true_eq, versionFitted_iff, htext, and_assoc]

theorem takes_iff (r : LoadRecord) (q : Queue) : q.takes (loadKey r) = true ↔ LoadOrdered r q := by
  have habove (k : SortKey) : (loadKey r).above k = true
      ↔ k.route < r.route ∨ (k.route = r.route ∧ k.sequence < r.sequence) := by
    rw [SortKey.above, decide_eq_true_iff, eq_comm (a := k.route)]
    rfl
  have hended : q.lastEnded.all (fun e => (loadKey r).route != e) = true
      ↔ q.lastEnded ≠ some r.route := by
    cases q.lastEnded with
    | none => simp
    | some e => simpa [loadKey] using ne_comm
  rw [Queue.takes, Bool.and_eq_true, Option.all_eq_true, hended, LoadOrdered]
  simp only [habove]

theorem held_iff (s : State) (k : Nat) : (findRecord s k).isSome = true ↔ ∃ a ∈ s.store, a.key = k := by
  simp [findRecord]

theorem freeCount_eq_zero_iff (s : State) : freeCount s = 0 ↔ 512 ≤ s.store.length := by
  rw [freeCount, show Config.storeSlots = 512 from rfl]
  omega

section Checks
variable {r : LoadRecord} {s : State}

theorem loadCause_of_not_formed (hf : ¬ LoadFormed r s.geometry) : loadCause r s = some .range :=
  if_pos ((loadRangeCheck_iff r s.geometry).mpr hf)

variable (hf : LoadFormed r s.geometry)
include hf

theorem loadCause_of_formed : loadCause r s =
    if (findRecord s r.key).isSome then some .duplicate
    else if !s.queue.takes (loadKey r) then some .order
    else if freeCount s = 0 then some .full
    else none :=
  if_neg fun k => (loadRangeCheck_iff r s.geometry).mp k hf

theorem loadCause_of_held (hh : ∃ a ∈ s.store, a.key = r.key) : loadCause r s = some .duplicate := by
  rw [loadCause_of_formed hf, if_pos ((held_iff s r.key).mpr hh)]

variable (hh : ¬ ∃ a ∈ s.store, a.key = r.key)
include hh

theorem loadCause_of_not_held : loadCause r s = if !s.queue.takes (loadKey r) then some .order
    else if freeCount s = 0 then some .full else none := by
  rw [loadCause_of_formed hf, if_neg (mt (held_iff s r.key).mp hh)]

theorem loadCause_of_not_ordered (ho : ¬ LoadOrdered r s.queue) : loadCause r s = some .order := by
  rw [loadCause_of_not_held hf hh, if_pos]
  rw [Bool.not_eq_true', ← Bool.not_eq_true, takes_iff]
  exact ho

variable (ho : LoadOrdered r s.queue)
include ho

theorem loadCause_of_ordered : loadCause r s = if freeCount s = 0 then some .full else none := by
  rw [loadCause_of_not_held hf hh, (takes_iff r s.queue).mpr ho]
  rfl

theorem loadCause_of_full (hl : 512 ≤ s.store.length) : loadCause r s = some .full := by
  rw [loadCause_of_ordered hf hh ho, if_pos ((freeCount_eq_zero_iff s).mpr hl)]

theorem loadCause_of_room (hl : s.store.length < 512) : loadCause r s = none := by
  rw [loadCause_of_ordered hf hh ho, if_neg (mt (freeCount_eq_zero_iff s).mp (Nat.not_le.mpr hl))]

end Checks

/-! ### The accepted records -/

/-- The state after records accepted in order. -/
def acceptAll (rs : List LoadRecord) (s : State) : State := rs.foldl (fun u r => acceptRecord r u) s

theorem acceptAll_eq (rs : List LoadRecord) : ∀ s : State, acceptAll rs s =
    { s with
      store := s.store ++ rs.map (loadedRecord s.planner)
      queue :=
        { s.queue with
          order := s.queue.order ++ rs.map (fun r => r.key)
          lastKey := (acceptAll rs s).queue.lastKey
          lastEnded := (acceptAll rs s).queue.lastEnded } } := by
  induction rs with
  | nil =>
    intro s
    simp [acceptAll]
  | cons r rs ih =>
    intro s
    refine (ih (acceptRecord r s)).trans ?_
    simp [acceptRecord, acceptAll]

theorem acceptAll_emptyLatch (rs : List LoadRecord) (s : State) :
    acceptAll rs (emptyLatch s) = emptyLatch (acceptAll rs s) := by
  induction rs generalizing s with
  | nil => rfl
  | cons r rs ih => exact ih (acceptRecord r s)

/-- What the checks say of the records of a load: those before `n` pass, and the one at `n`, if any, fails
with its cause. -/
structure LoadStops (rs : List LoadRecord) (s : State) (n : Nat) (cause : Option ResultCode) : Prop where
  bound : n ≤ rs.length
  passed : ∀ m r, m < n → rs[m]? = some r → loadCause r (acceptAll (rs.take m) s) = none
  all : cause = none → n = rs.length
  failed : ∀ c, cause = some c → ∃ r, rs[n]? = some r ∧ loadCause r (acceptAll (rs.take n) s) = some c

theorem loadFrom_spec (rs : List LoadRecord) : ∀ (k : Nat) (s : State), ∃ n cause,
    LoadStops rs s n cause ∧ loadFrom rs k s = (acceptAll (rs.take n) s, k + n, cause) := by
  induction rs with
  | nil =>
    intro k s
    exact ⟨0, none, ⟨le_refl 0, fun _ _ h => absurd h (Nat.not_lt_zero _), fun _ => rfl,
      fun _ h => absurd h (Option.some_ne_none _).symm⟩, rfl⟩
  | cons r rs ih =>
    intro k s
    cases hc : loadCause r s with
    | some c =>
      refine ⟨0, some c, ⟨Nat.zero_le _, fun _ _ h => absurd h (Nat.not_lt_zero _),
        fun h => absurd h (Option.some_ne_none _), fun d hd => ⟨r, rfl, ?_⟩⟩, ?_⟩
      · rw [← hd]
        exact hc
      · simp only [loadFrom, hc]
        rfl
    | none =>
      obtain ⟨n, cause, h, he⟩ := ih (k + 1) (acceptRecord r s)
      refine ⟨n + 1, cause, ⟨Nat.succ_le_succ h.bound, fun m q hm hq => ?_,
        fun hn => congrArg Nat.succ (h.all hn), fun c hn => h.failed c hn⟩, ?_⟩
      · cases m with
        | zero =>
          obtain rfl : r = q := Option.some.inj hq
          exact hc
        | succ m => exact h.passed m q (Nat.lt_of_succ_lt_succ hm) hq
      · simp only [loadFrom, hc, he]
        rw [Nat.add_assoc, Nat.add_comm 1 n]
        rfl

theorem loadCause_emptyLatch (r : LoadRecord) (s : State) : loadCause r (emptyLatch s) = loadCause r s := rfl

/-- The emptied latch makes no difference to the checks. -/
theorem LoadStops.of_emptyLatch {rs : List LoadRecord} {s : State} {n : Nat} {cause : Option ResultCode}
    (h : LoadStops rs (emptyLatch s) n cause) : LoadStops rs s n cause where
  bound := h.bound
  passed := fun m r hm hr => by
    have := h.passed m r hm hr
    rwa [acceptAll_emptyLatch, loadCause_emptyLatch] at this
  all := h.all
  failed := fun c hc => by
    obtain ⟨r, hr, hf⟩ := h.failed c hc
    rw [acceptAll_emptyLatch, loadCause_emptyLatch] at hf
    exact ⟨r, hr, hf⟩

/-! ### LOAD (R11) -/

theorem exec_load_malformed {s : State} (h : Listening s) : exec (.load .malformed) s
    = .next (answer .range (loadPayload 0 none s) (emptyLatch s)) :=
  congrArg Host.Outcome.next (hostCommandOr_malformed _ load h)

theorem exec_load {rs : List LoadRecord} {s : State} (h : Listening s) :
    exec (.load (.fields rs)) s = .next (load rs (emptyLatch s)) :=
  congrArg Host.Outcome.next (by
    rw [hostCommandOr, takeFrame_taken _ h.1, runOrRefuse, busy, h.2]
    rfl)

theorem loadPayload_eq (n : Nat) (cause : Option ResultCode) (s : State) : loadPayload n cause s =
    le 1 n ++ le 1 ((cause.map ResultCode.value).getD 0) ++ le 2 (512 - s.store.length) := rfl

section Load
variable {rs : List LoadRecord} {s : State}

theorem load_of_wrong_count (h : rs.length < 1 ∨ 8 < rs.length) :
    load rs s = answer .range (loadPayload 0 none s) s := if_pos h

variable (h1 : 1 ≤ rs.length) (h8 : rs.length ≤ 8)
include h1 h8

theorem load_of_unset (hg : s.geometry.isSet = false) :
    load rs s = answer .state (loadPayload 0 none s) s := by
  rw [load, if_neg (by omega), if_pos hg]

theorem load_of_set (hg : s.geometry.isSet = true) : ∃ n cause, LoadStops rs s n cause ∧ load rs s =
    answer (if cause = none then .ok else .partialResult)
      (loadPayload n cause (acceptAll (rs.take n) s)) (acceptAll (rs.take n) s) := by
  obtain ⟨n, cause, hstops, he⟩ := loadFrom_spec rs 0 s
  refine ⟨n, cause, hstops, ?_⟩
  rw [load, if_neg (by omega), if_neg (by simp [hg]), he, Nat.zero_add]
  cases cause <;> rfl

end Load

/-- Settles O30. -/
theorem loadAcceptsUpToFirstRefusal : Obligations.LoadAcceptsUpToFirstRefusal := by
  unfold Obligations.LoadAcceptsUpToFirstRefusal
  refine ⟨fun p s h => ?load, fun r s => ?checks, fun p v => ⟨rfl, rfl⟩, fun t =>
    ⟨splitLines_ne_nil t, splitLines_lines t⟩⟩
  case load =>
    intro load bytes refused
    refine ⟨fun hp => ?_, fun rs hp => ⟨fun hn => ?_, fun h1 h8 hg => ?_, fun h1 h8 hg => ?_⟩⟩
    · subst hp
      exact ⟨0, exec_load_malformed h⟩
    · subst hp
      exact ⟨0, (exec_load h).trans (congrArg _ (load_of_wrong_count hn))⟩
    · subst hp
      exact ⟨0, (exec_load h).trans (congrArg _ (load_of_unset (s := emptyLatch s) h1 h8 hg))⟩
    · subst hp
      obtain ⟨n, cause, hstops, he⟩ := load_of_set (s := emptyLatch s) h1 h8 hg
      have hs := hstops.of_emptyLatch
      have ht := acceptAll_eq (rs.take n) s
      refine ⟨n, cause, acceptAll (rs.take n) s, hs.bound, rfl, ?_, by rw [ht], by rw [ht], hs.passed, hs.all,
        hs.failed⟩
      refine (exec_load h).trans (congrArg _ (he.trans ?_))
      rw [acceptAll_emptyLatch, answer_of_host (s := s) (by rw [ht]; rfl)]
      rfl
  case checks =>
    intro formed held ordered
    exact ⟨loadCause_of_not_formed, loadCause_of_held, loadCause_of_not_ordered, loadCause_of_full,
      loadCause_of_room, rfl, rfl⟩

end Sys2Proof.Machine

/-! PROOF. The parts of the birth decision (R15, R34, R35, R71, R93): the candidate, its case, the gap
and the birth. -/

namespace Sys2Proof.Machine

/-! ### The birth (R16, R71, R72, R93) -/

/-- Everything that a birth changes. -/
theorem bear_eq (r : Record) (u : State) : bear r u =
    { u with
      store := u.store.map (fun q => if q.key = r.key then { q with state := .inFlight } else q)
      queue :=
        { u.queue with
          order := u.queue.order.filter (fun k => k ≠ r.key)
          consecutive :=
            if r.kind = .remake then
              (if u.queue.consecutive < 8 then u.queue.consecutive + 1 else u.queue.consecutive)
            else 0 }
      carrier :=
        { u.carrier with
          accumulator :=
            if 4 ≤ u.carrier.accumulator + u.carrier.lq % 4 then
              u.carrier.accumulator + u.carrier.lq % 4 - 4
            else u.carrier.accumulator + u.carrier.lq % 4 }
      tracking :=
        { u.tracking with
          pieces := u.tracking.pieces ++
            [newPiece r (((findRecord u r.key).bind (fun q => q.bundle)).getD 0)
              (if 4 ≤ u.carrier.accumulator + u.carrier.lq % 4 then u.carrier.lq / 4 + 1
                else u.carrier.lq / 4) u]
          counter := u.tracking.counter + 1 }
      units := u.units.modify 0 (fun t => { t with ordered := true }) } := by
  have lead : leadStep u.carrier.lq u.carrier.accumulator
      = (if 4 ≤ u.carrier.accumulator + u.carrier.lq % 4 then u.carrier.lq / 4 + 1
          else u.carrier.lq / 4,
        if 4 ≤ u.carrier.accumulator + u.carrier.lq % 4 then
          u.carrier.accumulator + u.carrier.lq % 4 - 4
        else u.carrier.accumulator + u.carrier.lq % 4) := by
    rw [leadStep]
    split <;> rfl
  have queue : (dequeue r.key u).queue.countBirth r.kind
      = { u.queue with
          order := u.queue.order.filter (fun k => k ≠ r.key)
          consecutive :=
            if r.kind = .remake then
              (if u.queue.consecutive < 8 then u.queue.consecutive + 1 else u.queue.consecutive)
            else 0 } := by
    cases r.kind <;> rfl
  rw [bear, lead]
  dsimp only [updateRecord, mapRecords, giveOrder, updateUnit]
  rw [queue]
  rfl

/-! ### The candidate (R15) -/

theorem eligible_iff (m : LineState) (q : Record) :
    eligible m q = true ↔ q.kind = .return ∨ (q.kind = .normal ∧ m = .running) := by
  unfold eligible
  cases q.kind <;> simp

section Candidate
variable {m : LineState} {s : State} {first : Record} {rest : List Record}

theorem candidate_of_empty (h : queuedRecords s = []) : candidate m s = none := by
  simp [candidate, h]

theorem candidate_of_front (h : queuedRecords s = first :: rest)
    (hn : ¬ (first.kind = .remake ∧ s.queue.burst ≤ s.queue.consecutive
      ∧ ∃ q ∈ queuedRecords s, q.kind = .return ∨ (q.kind = .normal ∧ m = .running))) :
    candidate m s = some first := by
  have he : ¬ (first.kind = .remake ∧ s.queue.burst ≤ s.queue.consecutive
      ∧ (first :: rest).any (eligible m)) := by
    simpa only [List.any_eq_true, eligible_iff, h] using hn
  simp only [candidate, h, List.head?_cons]
  exact if_neg he

/-- A burst of REMAKE births is broken by the first record of another kind (R15). -/
theorem candidate_of_burst (h : queuedRecords s = first :: rest)
    (hp : first.kind = .remake ∧ s.queue.burst ≤ s.queue.consecutive
      ∧ ∃ q ∈ queuedRecords s, q.kind = .return ∨ (q.kind = .normal ∧ m = .running)) :
    ∃ q a b, candidate m s = some q ∧ queuedRecords s = a ++ q :: b ∧ q.kind ≠ .remake
      ∧ ∀ x ∈ a, x.kind = .remake := by
  have passed : candidate m s = (queuedRecords s).find? (fun r => r.kind ≠ .remake) := by
    have he : first.kind = .remake ∧ s.queue.burst ≤ s.queue.consecutive
        ∧ (first :: rest).any (eligible m) := by
      simpa only [List.any_eq_true, eligible_iff, h] using hp
    simp only [candidate, h, List.head?_cons]
    exact if_pos he
  obtain ⟨-, -, e, he, hk⟩ := hp
  have found : ((queuedRecords s).find? (fun r => r.kind ≠ .remake)).isSome = true :=
    List.find?_isSome.mpr ⟨e, he, by rcases hk with hk | ⟨hk, -⟩ <;> simp [hk]⟩
  obtain ⟨q, hq⟩ := Option.isSome_iff_exists.mp found
  obtain ⟨hr, a, b, hab, ha⟩ := List.find?_eq_some_iff_append.mp hq
  exact ⟨q, a, b, passed.trans hq, hab, by simpa using hr, fun x hx => by simpa using ha x hx⟩

end Candidate

/-! ### The case of a birth (R34) -/

/-- A plan reference that R34 counts as absent: none, or one to an ordinal that no record can be born
to. -/
def RefAbsent (s : State) (r : Record) : Prop :=
  ∀ f o, r.planRef = some f → ordinalAt s f = some o →
    o.status = .released ∨ o.status = .skipped ∨ o.status = .emptied

section Case
variable {s : State} {r : Record} {f : PlanRef} {o : Ordinal} {i : Nat}

theorem birthCase_of_allocated (hf : r.planRef = some f) (ho : ordinalAt s f = some o) {n : Nat}
    (hs : o.status = .allocated n) : birthCase s r = .planned := by
  simp only [birthCase, hf, ho, hs]

theorem birthCase_of_waiting (hf : r.planRef = some f) (ho : ordinalAt s f = some o)
    (hs : o.status = .waiting) : birthCase s r = .waiting f := by
  simp only [birthCase, hf, ho, hs]

theorem birthCase_of_absent_new (h : RefAbsent s r) (hp : planOfRoute s r.route = none) :
    birthCase s r = .newRoute := by
  cases hf : r.planRef with
  | none => simp only [birthCase, hf, hp]
  | some f =>
    cases ho : ordinalAt s f with
    | none => simp only [birthCase, hf, ho, hp]
    | some o => rcases h f o hf ho with hs | hs | hs <;> simp only [birthCase, hf, ho, hs, hp]

theorem birthCase_of_absent_growing (h : RefAbsent s r) (hp : planOfRoute s r.route = some i) :
    birthCase s r = .growing i := by
  cases hf : r.planRef with
  | none => simp only [birthCase, hf, hp]
  | some f =>
    cases ho : ordinalAt s f with
    | none => simp only [birthCase, hf, ho, hp]
    | some o => rcases h f o hf ho with hs | hs | hs <;> simp only [birthCase, hf, ho, hs, hp]

/-- A record is to be planned exactly when its reference counts as absent (R34, R35). -/
theorem unplanned_iff (s : State) (r : Record) : unplanned s r = true ↔ RefAbsent s r := by
  constructor
  · intro h f o hf ho
    cases hs : o.status with
    | allocated n => simp [unplanned, birthCase_of_allocated hf ho hs] at h
    | waiting => simp [unplanned, birthCase_of_waiting hf ho hs] at h
    | released => exact .inl rfl
    | skipped => exact .inr (.inl rfl)
    | emptied => exact .inr (.inr rfl)
  · intro h
    cases hp : planOfRoute s r.route with
    | none => simp only [unplanned, birthCase_of_absent_new h hp]
    | some i => simp only [unplanned, birthCase_of_absent_growing h hp]

end Case

/-! ### The plan table (R33, R34) -/

theorem planAt_eq_getElem {s : State} {i : Nat} (h : i < s.planner.plans.length) :
    planAt s i = s.planner.plans[i] := by
  simp [planAt, List.getD_eq_getElem?_getD, h]

theorem forall_planAt_iff (s : State) (P : Option Plan → Prop) :
    (∀ x ∈ s.planner.plans, P x) ↔ ∀ i, i < s.planner.plans.length → P (planAt s i) := by
  rw [List.forall_mem_iff_forall_getElem]
  exact forall₂_congr fun i hi => by rw [planAt_eq_getElem hi]

/-- The first entry of the plan table that passes a test. -/
theorem findIdx?_plans_eq_some (s : State) (test : Option Plan → Bool) (i : Nat) :
    s.planner.plans.findIdx? test = some i ↔ i < s.planner.plans.length ∧ test (planAt s i) = true
      ∧ ∀ j, j < i → test (planAt s j) = false := by
  rw [List.findIdx?_eq_some_iff_getElem]
  constructor
  · rintro ⟨hi, ht, hb⟩
    refine ⟨hi, planAt_eq_getElem hi ▸ ht, fun j hj => ?_⟩
    rw [planAt_eq_getElem (hj.trans hi)]
    simpa using hb j hj
  · rintro ⟨hi, ht, hb⟩
    refine ⟨hi, planAt_eq_getElem hi ▸ ht, fun j hj => ?_⟩
    rw [← planAt_eq_getElem (hj.trans hi), hb j hj]
    simp

theorem freePlan_eq_some (s : State) (i : Nat) : freePlan s = some i ↔
    i < s.planner.plans.length ∧ planAt s i = none ∧ ∀ j, j < i → planAt s j ≠ none := by
  simp only [freePlan, findIdx?_plans_eq_some, Option.isNone_iff_eq_none, Option.isNone_eq_false_iff,
    Option.isSome_iff_ne_none]

theorem freePlan_eq_none (s : State) :
    freePlan s = none ↔ ∀ i, i < s.planner.plans.length → planAt s i ≠ none := by
  rw [freePlan, List.findIdx?_eq_none_iff, ← forall_planAt_iff s (fun x => x ≠ none)]
  simp only [Option.isNone_eq_false_iff, Option.isSome_iff_ne_none]

theorem planOfRoute_of_none {s : State} {route : Nat}
    (h : ∀ i p, planAt s i = some p → p.route ≠ route) : planOfRoute s route = none := by
  rw [planOfRoute, List.findIdx?_eq_none_iff, forall_planAt_iff s
    (fun x => x.any (fun q => q.route == route) = false)]
  intro i _
  cases hp : planAt s i with
  | none => rfl
  | some p => simpa using h i p hp

theorem planOfRoute_of_first {s : State} {route i : Nat} {p : Plan} (hp : planAt s i = some p)
    (hr : p.route = route) (h : ∀ j q, j < i → planAt s j = some q → q.route ≠ route) :
    planOfRoute s route = some i := by
  refine (findIdx?_plans_eq_some s _ i).mpr ⟨planAt_lt hp, by simp [hp, hr], fun j hj => ?_⟩
  cases hq : planAt s j with
  | none => rfl
  | some q => simpa using h j q hj hq

end Sys2Proof.Machine

/-! PROOF. The acts of the planner at a birth: the allocation of a bundle record, finality and the making
of a plan (R33 to R38, R74, R75). -/

namespace Sys2Proof.Machine

/-! ### The allocation of a bundle record (R74, R75) -/

/-- The number given is the first one tried that is not in use, within the numbers that may be tried. -/
theorem freeBundleNumber_eq_iterate (used : List Nat) : ∀ fuel n, ∃ j,
    freeBundleNumber used fuel n = nextBundleNumber^[j] n
      ∧ ∀ k, k < j → nextBundleNumber^[k] n ∈ used := by
  intro fuel
  induction fuel with
  | zero => exact fun n => ⟨0, rfl, fun k hk => absurd hk (Nat.not_lt_zero k)⟩
  | succ fuel ih =>
    intro n
    by_cases hn : n ∈ used
    case pos =>
      obtain ⟨j, hj, hb⟩ := ih (nextBundleNumber n)
      refine ⟨j + 1, by rw [freeBundleNumber, if_pos hn, hj]; rfl, fun k hk => ?_⟩
      cases k with
      | zero => exact hn
      | succ k => exact hb k (Nat.lt_of_succ_lt_succ hk)
    case neg => exact ⟨0, by rw [freeBundleNumber, if_neg hn]; rfl, fun k hk => absurd hk (Nat.not_lt_zero k)⟩

/-- The bundle record that an ordinal is given (R74). -/
def formingBundle (n route : Nat) (f : PlanRef) (o : Ordinal) : Bundle :=
  { number := n, route := route, plan := f.plan, ordinal := f.ordinal, state := .forming,
    pocket := none, plannedCount := o.count, plannedMass := o.mass, final := o.final,
    overmass := o.overmass, stackedCount := 0, stackedMass := 0, members := [], short := false,
    reason := none, holdStart := none, claim := false }

/-- Everything that an allocation changes, with the number that it gives (R74, R75). -/
theorem allocateBundle_eq {f : PlanRef} (route : Nat) {s : State} {o : Ordinal}
    (ho : ordinalAt s f = some o) (hr : s.stacker.bundles.length < 24) :
    ∃ n j, n = nextBundleNumber^[j] s.stacker.counter ∧ (∀ b ∈ s.stacker.bundles, b.number ≠ n)
      ∧ (∀ k, k < j → ∃ b ∈ s.stacker.bundles, b.number = nextBundleNumber^[k] s.stacker.counter)
      ∧ allocateBundle f route s = updateOrdinal f (fun o => { o with status := .allocated n })
        { s with
          store := s.store.map (fun r =>
            if (r.state = .queued ∨ r.state = .inFlight) ∧ r.planRef = some f then
              { r with bundle := some n } else r)
          stacker :=
            { s.stacker with
              counter := nextBundleNumber n
              bundles := s.stacker.bundles ++ [formingBundle n route f o] } } := by
  obtain ⟨j, hj, hb⟩ := freeBundleNumber_eq_iterate (s.stacker.bundles.map (fun b => b.number))
    Config.bundleSlots s.stacker.counter
  have fresh := freeBundleNumber_not_mem s.stacker.counter
    (used := s.stacker.bundles.map (fun b => b.number)) (by simpa [Config.bundleSlots] using hr)
  refine ⟨_, j, hj, fun b hm e => fresh (List.mem_map.mpr ⟨b, hm, e⟩),
    fun k hk => List.mem_map.mp (hb k hk), ?_⟩
  simp only [allocateBundle, ho, updateOrdinal_modify]
  rfl

/-! ### Finality (R38) -/

section Finality
variable {f : PlanRef} {s : State} {o : Ordinal} (ho : ordinalAt s f = some o)
include ho

theorem finaliseOrdinal_of_allocated {n : Nat} (hs : o.status = .allocated n) :
    finaliseOrdinal f s = retirementTest f.plan (completionTest n
      (updateBundle n (fun b => { b with final := true })
        (updateOrdinal f (fun o => { o with final := true }) s))) := by
  simp only [finaliseOrdinal, ho, hs]

theorem finaliseOrdinal_of_not_allocated (hs : ∀ n, o.status ≠ .allocated n) :
    finaliseOrdinal f s
      = retirementTest f.plan (updateOrdinal f (fun o => { o with final := true }) s) := by
  cases h : o.status with
  | allocated n => exact absurd h (hs n)
  | waiting => simp only [finaliseOrdinal, ho, h]
  | skipped => simp only [finaliseOrdinal, ho, h]
  | emptied => simp only [finaliseOrdinal, ho, h]
  | released => simp only [finaliseOrdinal, ho, h]

end Finality

/-- The current ordinal of an OPEN plan that is not final yet. -/
def EndsAt (p : Plan) (c : Nat) : Prop :=
  p.kind = .openAt c ∧ ∃ o, p.sizes[c]? = some o ∧ o.final = false

theorem any_not_final_iff (x : Option Ordinal) :
    x.any (fun o => !o.final) = true ↔ ∃ o, x = some o ∧ o.final = false := by
  cases x <;> simp

theorem finaliseCurrent_of_ends {i c : Nat} {s : State} {p : Plan} (hp : planAt s i = some p)
    (h : EndsAt p c) : finaliseCurrent i s = finaliseOrdinal (PlanRef.mk i c) s := by
  obtain ⟨hk, ho⟩ := h
  simp only [finaliseCurrent, hp, hk]
  exact if_pos ((any_not_final_iff _).mpr ho)

theorem finaliseCurrent_of_not_ends {i : Nat} {s : State}
    (h : ∀ p c, planAt s i = some p → ¬ EndsAt p c) : finaliseCurrent i s = s := by
  cases hp : planAt s i with
  | none => simp only [finaliseCurrent, hp]
  | some p =>
    cases hk : p.kind with
    | complete => simp only [finaliseCurrent, hp, hk]
    | openAt c =>
      simp only [finaliseCurrent, hp, hk]
      exact if_neg fun ha => h p c hp ⟨hk, (any_not_final_iff _).mp ha⟩

/-- One plan's part of the finality that a birth of a route brings to the others (R34, R38). -/
def finaliseOther (route : Nat) (s : State) (i : Nat) : State :=
  if (planAt s i).any (fun p => p.route != route) then finaliseCurrent i s else s

theorem finaliseOther_of_plan {route i : Nat} {s : State} {p : Plan} (hp : planAt s i = some p) :
    finaliseOther route s i = if p.route = route then s else finaliseCurrent i s := by
  by_cases hr : p.route = route <;> simp [finaliseOther, hp, hr]

theorem finaliseOther_of_not_ends {route i : Nat} {s : State}
    (h : ∀ p c, planAt s i = some p → ¬ EndsAt p c) : finaliseOther route s i = s := by
  rw [finaliseOther, finaliseCurrent_of_not_ends h, ite_self]

/-! ### The making of a plan (R35) -/

/-- The route ends in a list when an end-of-route record of it comes before any record of another
route. -/
theorem routeEnds_iff (route : Nat) (rs : List Record) : routeEnds route rs = true ↔
    ∃ a q b, rs = a ++ q :: b ∧ q.endOfRoute = true ∧ q.route = route ∧ ∀ x ∈ a, x.route = route := by
  induction rs with
  | nil => simp [routeEnds]
  | cons r rest ih =>
    rw [routeEnds, Bool.and_eq_true, Bool.or_eq_true, beq_iff_eq, ih]
    constructor
    · rintro ⟨hr, he | ⟨a, q, b, rfl, hq⟩⟩
      · exact ⟨[], r, rest, rfl, he, hr, by simp⟩
      · exact ⟨r :: a, q, b, rfl, hq.1, hq.2.1, List.forall_mem_cons.mpr ⟨hr, hq.2.2⟩⟩
    · rintro ⟨a, q, b, e, he, hr, ha⟩
      cases a with
      | nil =>
        cases e
        exact ⟨hr, .inl he⟩
      | cons x a =>
        cases e
        obtain ⟨hx, ha⟩ := List.forall_mem_cons.mp ha
        exact ⟨hx, .inr ⟨a, q, b, rfl, he, hr, ha⟩⟩

/-- One group of members takes its plan references. -/
theorem findRecord_group (i o k : Nat) (group : List Record) (s : State) :
    findRecord (mapRecords (fun r => if r.key ∈ group.map (fun m => m.key) then
        { r with planRef := some { plan := i, ordinal := o } } else r) s) k
      = (findRecord s k).map (fun r => if k ∈ group.map (fun m => m.key) then
        { r with planRef := some { plan := i, ordinal := o } } else r) := by
  rw [findRecord_mapRecords _ (fun r => by split <;> rfl)]
  cases h : findRecord s k with
  | none => rfl
  | some q =>
    have hk := findRecord_key h
    subst hk
    rfl

/-- A record that is no member keeps its plan reference. -/
theorem findRecord_assignRefs_other (i k : Nat) (groups : List (List Record)) : ∀ (o : Nat) (s : State),
    (∀ m ∈ groups.flatten, m.key ≠ k) → findRecord (assignRefs i o groups s) k = findRecord s k := by
  induction groups with
  | nil => exact fun _ _ _ => rfl
  | cons group groups ih =>
    intro o s h
    rw [List.flatten_cons, List.forall_mem_append] at h
    have out : k ∉ group.map (fun m => m.key) := by simpa using h.1
    rw [assignRefs, ih _ _ h.2, findRecord_group]
    simp only [out, if_false, Option.map_id']

/-- A member of a group takes a plan reference to the ordinal of the group. -/
theorem findRecord_assignRefs_member (i : Nat) (groups : List (List Record)) :
    ∀ (o g : Nat) (group : List Record) (m q : Record) (s : State),
    (groups.flatten.map (fun m => m.key)).Nodup → groups[g]? = some group → m ∈ group →
    findRecord s m.key = some q →
    findRecord (assignRefs i o groups s) m.key = some { q with planRef := some (PlanRef.mk i (o + g)) } := by
  induction groups with
  | nil => intro o g group m q s _ hg; simp at hg
  | cons first groups ih =>
    intro o g group m q s hn hg hm hq
    rw [List.flatten_cons, List.map_append, List.nodup_append] at hn
    obtain ⟨-, hn, apart⟩ := hn
    cases g with
    | zero =>
      obtain rfl : first = group := by simpa using hg
      have hk : m.key ∈ first.map (fun m => m.key) := List.mem_map_of_mem hm
      have alone : ∀ x ∈ groups.flatten, x.key ≠ m.key := fun x hx e =>
        apart _ hk _ (List.mem_map_of_mem hx) e.symm
      rw [assignRefs, findRecord_assignRefs_other _ _ _ _ _ alone, findRecord_group, hq]
      simp only [hk, if_true, Option.map_some, Nat.add_zero]
    | succ g =>
      have hg : groups[g]? = some group := by simpa using hg
      have later : m.key ∈ groups.flatten.map (fun m => m.key) :=
        List.mem_map_of_mem (List.mem_flatten.mpr ⟨group, List.mem_of_getElem? hg, hm⟩)
      have out : m.key ∉ first.map (fun m => m.key) := fun h => apart _ h _ later rfl
      have kept : findRecord (mapRecords (fun r => if r.key ∈ first.map (fun m => m.key) then
          { r with planRef := some { plan := i, ordinal := o } } else r) s) m.key = some q := by
        rw [findRecord_group, hq]
        simp only [out, if_false, Option.map_some]
      rw [assignRefs, ih (o + 1) g group m q _ hn hg hm kept, Nat.add_assoc, Nat.add_comm 1]

/-- The queued records have keys of their own when the queue holds no key twice. -/
theorem queuedRecords_keys_nodup {s : State} (h : s.queue.order.Nodup) :
    ((queuedRecords s).map (fun q => q.key)).Nodup := by
  refine List.Nodup.sublist ?_ h
  rw [queuedRecords]
  induction s.queue.order with
  | nil => exact .slnil
  | cons k ks ih =>
    cases hk : findRecord s k with
    | none => simpa [List.filterMap_cons, hk] using ih.cons k
    | some q => simpa [List.filterMap_cons, hk, findRecord_key hk] using ih.cons_cons k

theorem planMembers_keys_nodup {s : State} (r : Record) (h : s.queue.order.Nodup) :
    ((planMembers s r).map (fun q => q.key)).Nodup := by
  rw [planMembers, List.map_take]
  refine List.Nodup.sublist (List.take_sublist _ _) ?_
  rw [List.map_cons, List.nodup_cons]
  refine ⟨fun hm => ?_, (queuedRecords_keys_nodup h).sublist (List.filter_sublist.map _)⟩
  obtain ⟨q, hq, e⟩ := List.mem_map.mp hm
  obtain ⟨-, hk⟩ := List.mem_filter.mp hq
  simp [e] at hk

section MakePlan
variable {i : Nat} {r : Record} {s : State}

/-- The members of a COMPLETE plan in their groups (R36). -/
def planGroups (s : State) (r : Record) : List (List Record) :=
  divideMembers s.planner.nmax s.planner.mmax (planMembers s r).length (planMembers s r)

theorem flatten_planGroups (s : State) (r : Record) : (planGroups s r).flatten = planMembers s r :=
  flatten_divideMembers _ _ _ _ le_rfl

/-- The plan made while its route ends in the section searched (R35). -/
theorem makePlan_of_ends (h : routeEnds r.route (routeSearch s r) = true) : makePlan i r s =
    assignRefs i 0 (planGroups s r) (setPlan i (some
      { route := r.route, kind := .complete, nmax := s.planner.nmax, mmax := s.planner.mmax,
        sizes := (planGroups s r).map (ordinalOf s.planner.mmax), closedToGrowth := false }) s) :=
  if_pos h

theorem planAt_makePlan_of_ends (h : routeEnds r.route (routeSearch s r) = true)
    (hi : i < s.planner.plans.length) : planAt (makePlan i r s) i = some
      { route := r.route, kind := .complete, nmax := s.planner.nmax, mmax := s.planner.mmax,
        sizes := (planGroups s r).map (ordinalOf s.planner.mmax), closedToGrowth := false } := by
  rw [makePlan_of_ends h, planAt, assignRefs_planner]
  exact planAt_setPlan_same _ hi

theorem findRecord_makePlan_member (h : routeEnds r.route (routeSearch s r) = true)
    (hn : s.queue.order.Nodup) {g : Nat} {group : List Record} (hg : (planGroups s r)[g]? = some group)
    {m q : Record} (hm : m ∈ group) (hq : findRecord s m.key = some q) :
    findRecord (makePlan i r s) m.key = some { q with planRef := some (PlanRef.mk i g) } := by
  have keys : ((planGroups s r).flatten.map (fun m => m.key)).Nodup := by
    rw [flatten_planGroups]
    exact planMembers_keys_nodup r hn
  rw [makePlan_of_ends h, findRecord_assignRefs_member i _ 0 g group m q (setPlan i _ s) keys hg hm
    (by exact hq), Nat.zero_add]

theorem findRecord_makePlan_other (h : routeEnds r.route (routeSearch s r) = true) {k : Nat}
    (hk : ∀ m ∈ planMembers s r, m.key ≠ k) : findRecord (makePlan i r s) k = findRecord s k := by
  rw [makePlan_of_ends h, findRecord_assignRefs_other _ _ _ _ _ (by rwa [flatten_planGroups])]
  rfl

end MakePlan

end Sys2Proof.Machine

/-! PROOF. The birth decision by the case of its candidate (R34 to R38, R72), and O53. -/

namespace Sys2Proof.Machine

/-! ### What finality leaves of an ordinal's status (R38, R42) -/

theorem completionTest_planner (n : Nat) (s : State) : (completionTest n s).planner = s.planner := by
  unfold completionTest
  split
  · rfl
  next b hb =>
    split
    · rw [closeBundle_effect _ hb]
    · rfl

theorem planAt_setPlan (i j : Nat) (x : Option Plan) (s : State) : planAt (setPlan i x s) j
    = if i = j ∧ i < s.planner.plans.length then x else planAt s j := by
  by_cases hij : i = j
  · subst hij
    by_cases hi : i < s.planner.plans.length <;>
      simp [planAt, setPlan, List.getD_eq_getElem?_getD, hi]
  · simp [planAt, setPlan, List.getD_eq_getElem?_getD, hij]

section Status
variable {f g : PlanRef} {s : State} {e : Ordinal}

/-- An ordinal that stands after the retirement test stood before it (R42). -/
theorem ordinalAt_of_retirementTest {i : Nat} (h : ordinalAt (retirementTest i s) g = some e) :
    ordinalAt s g = some e := by
  rcases retirementTest_cases i s with same | retired
  · rwa [same] at h
  · rw [retired] at h
    have hp : planAt (retirePlan i s) g.plan = planAt (setPlan i none s) g.plan := rfl
    rw [ordinalAt, hp, planAt_setPlan] at h
    split at h
    · cases h
    · exact h

/-- An update that keeps every status keeps the status of every ordinal. -/
theorem ordinalAt_of_updateOrdinal {a : Ordinal → Ordinal} (ha : ∀ o, (a o).status = o.status)
    (h : ordinalAt (updateOrdinal f a s) g = some e) :
    ∃ o, ordinalAt s g = some o ∧ o.status = e.status := by
  cases hp : planAt s f.plan with
  | none =>
    rw [updateOrdinal, hp] at h
    exact ⟨e, h, rfl⟩
  | some p =>
    simp only [updateOrdinal, hp] at h
    rw [ordinalAt, planAt_setPlan] at h
    split at h
    next hj =>
      rw [Option.bind_some, List.getElem?_modify] at h
      obtain ⟨o, ho, rfl⟩ := Option.map_eq_some_iff.mp h
      refine ⟨o, by rw [ordinalAt, ← hj.1, hp]; exact ho, ?_⟩
      split
      · exact (ha o).symm
      · rfl
    · exact ⟨e, h, rfl⟩

/-- No ordinal changes its status when one becomes final (R38). -/
theorem ordinalAt_of_finaliseOrdinal (h : ordinalAt (finaliseOrdinal f s) g = some e) :
    ∃ o, ordinalAt s g = some o ∧ o.status = e.status := by
  unfold finaliseOrdinal at h
  split at h
  · exact ⟨e, h, rfl⟩
  · have h := ordinalAt_of_retirementTest h
    refine ordinalAt_of_updateOrdinal (f := f) (a := fun o => { o with final := true })
      (fun _ => rfl) ?_
    split at h
    · rw [ordinalAt, planAt, completionTest_planner] at h
      exact h
    all_goals exact h

end Status

/-! ### The reference that a growing candidate takes (R37) -/

theorem takeRef_of_allocated {f : PlanRef} {s : State} {o : Ordinal} {n : Nat} (r : Record)
    (ho : ordinalAt s f = some o) (hs : o.status = .allocated n) : takeRef f r s
      = updateRecord r.key (fun q => { q with planRef := some f, bundle := some n }) s := by
  simp only [takeRef, ho, hs]

theorem takeRef_of_not_allocated {f : PlanRef} {s : State} (r : Record)
    (h : ∀ o n, ordinalAt s f = some o → o.status ≠ .allocated n) : takeRef f r s
      = updateRecord r.key (fun q => { q with planRef := some f, bundle := none }) s := by
  cases ho : ordinalAt s f with
  | none => simp only [takeRef, ho]
  | some o =>
    cases hs : o.status with
    | allocated n => exact absurd hs (h o n ho)
    | waiting => simp only [takeRef, ho, hs]
    | skipped => simp only [takeRef, ho, hs]
    | emptied => simp only [takeRef, ho, hs]
    | released => simp only [takeRef, ho, hs]

/-! ### Growth by joining (R37) -/

section Growth
variable {i : Nat} {p : Plan} {s : State} {r : Record}

/-- A candidate that joins the current ordinal raises it and its bundle, and takes its reference and the
bundle's number (R37). -/
theorem takeRef_joinOrdinal {c n : Nat} (hp : planAt s i = some p) (hj : JoinsCurrent s p r c n) :
    takeRef (PlanRef.mk i c) r (joinOrdinal (PlanRef.mk i c) r s) =
      { s with
        planner :=
          { s.planner with
            plans := s.planner.plans.set i (some
              { p with
                sizes := p.sizes.modify c (fun o =>
                  { o with count := o.count + 1, mass := o.mass + r.nominalMass }) }) }
        stacker :=
          { s.stacker with
            bundles := s.stacker.bundles.map (fun b => if b.number = n then
              { b with
                plannedCount := b.plannedCount + 1
                plannedMass := b.plannedMass + r.nominalMass } else b) }
        store := s.store.map (fun q => if q.key = r.key then
          { q with planRef := some (PlanRef.mk i c), bundle := some n } else q) } := by
  obtain ⟨-, o, -, ho, hs, -⟩ := hj
  have hat : ordinalAt s (PlanRef.mk i c) = some o := (ordinalAt_of_planAt hp).trans ho
  have joined : joinOrdinal (PlanRef.mk i c) r s = updateBundle n
      (fun b => { b with
        plannedCount := b.plannedCount + 1, plannedMass := b.plannedMass + r.nominalMass })
      (setPlan i (some { p with sizes := p.sizes.modify c (fun o =>
        { o with count := o.count + 1, mass := o.mass + r.nominalMass }) }) s) := by
    simp only [joinOrdinal, hat, hs, updateOrdinal, hp]
  rw [joined, takeRef_of_allocated (o :=
    { o with count := o.count + 1, mass := o.mass + r.nominalMass }) r ?_ hs]
  · rfl
  · refine (ordinalAt_of_planAt (f := PlanRef.mk i c)
      (planAt_setPlan_same _ (planAt_lt hp))).trans ?_
    simp [ho]

/-! ### Growth by opening (R37, R38) -/

/-- The plan with the ordinal that a candidate opens (R37). -/
def Plan.grown (p : Plan) (r : Record) : Plan :=
  { p with
    kind := if p.kind = .complete then .complete else .openAt p.sizes.length
    sizes := p.sizes ++
      [{ count := 1, mass := r.nominalMass, final := decide (p.kind = .complete)
         overmass := decide (p.mmax < r.nominalMass), status := .waiting }] }

theorem openOrdinal_of_complete (hk : p.kind = .complete) :
    openOrdinal i p r s = setPlan i (some (p.grown r)) s := by
  simp only [openOrdinal, hk, Plan.grown, openedOrdinal, if_true, decide_true]

theorem openOrdinal_of_open {c : Nat} (hk : p.kind = .openAt c) : openOrdinal i p r s =
    if (p.sizes[c]?).any (fun o => !o.final) = true then
      finaliseOrdinal (PlanRef.mk i c) (setPlan i (some (p.grown r)) s)
    else setPlan i (some (p.grown r)) s := by
  simp only [openOrdinal, hk, Plan.grown, openedOrdinal, reduceCtorEq, if_false, decide_false]

/-- The opened ordinal has no bundle record yet, whatever the finality of the one before it did
(R37, R38). -/
theorem openOrdinal_not_allocated (hp : planAt s i = some p) (o : Ordinal) (n : Nat)
    (h : ordinalAt (openOrdinal i p r s) (PlanRef.mk i p.sizes.length) = some o) :
    o.status ≠ .allocated n := by
  have fresh : ∀ e, ordinalAt (setPlan i (some (p.grown r)) s) (PlanRef.mk i p.sizes.length) = some e →
      e.status = .waiting := by
    intro e he
    rw [ordinalAt_of_planAt (f := PlanRef.mk i p.sizes.length)
      (planAt_setPlan_same _ (planAt_lt hp))] at he
    simp [Plan.grown] at he
    rw [← he]
  cases hk : p.kind with
  | complete =>
    rw [openOrdinal_of_complete hk] at h
    simp [fresh o h]
  | openAt c =>
    rw [openOrdinal_of_open hk] at h
    split at h
    · obtain ⟨e, he, hs⟩ := ordinalAt_of_finaliseOrdinal h
      simp [← hs, fresh e he]
    · simp [fresh o h]

end Growth

/-! ### The cases of the birth decision (R34 to R38, R72) -/

theorem bundleTableFull_of_full {s : State} (h : 24 ≤ s.stacker.bundles.length) :
    bundleTableFull s = true := decide_eq_true h

theorem bundleTableFull_of_room {s : State} (h : ¬ 24 ≤ s.stacker.bundles.length) :
    bundleTableFull s = false := decide_eq_false h

theorem growthJoins_eq_none {s : State} {p : Plan} {r : Record} (h : ∀ c n, ¬ JoinsCurrent s p r c n) :
    growthJoins s p r = none := by
  rw [Option.eq_none_iff_forall_ne_some]
  exact fun c hc => (growthJoins_iff s p r c).mp hc |>.elim fun n hn => h c n hn

theorem growthBlocked_of_opens {s : State} {p : Plan} {r : Record} (h : p.closedToGrowth = false)
    (hj : ∀ c n, ¬ JoinsCurrent s p r c n) (hl : p.sizes.length < 512) :
    growthBlocked s p r = false := by
  simp only [growthBlocked, h, growthJoins_eq_none hj, Bool.false_or, Option.isNone_none, Bool.true_and]
  exact decide_eq_false (Nat.not_le.mpr hl)

section Growing
variable {i : Nat} {p : Plan} {s : State} {r : Record} (hp : planAt s i = some p)
include hp

theorem bearGrowing_of_closed (h : p.closedToGrowth = true) :
    bearGrowing i r s = gap .planClosed s := by
  simp only [bearGrowing, hp, growthBlocked, h, Bool.true_or, if_true]

theorem bearGrowing_of_last (h : p.closedToGrowth = false) (hj : ∀ c n, ¬ JoinsCurrent s p r c n)
    (hl : 512 ≤ p.sizes.length) : bearGrowing i r s = gap .planClosed (finaliseCurrent i
      (setPlan i (some { p with closedToGrowth := true }) s)) := by
  have blocked : growthBlocked s p r = true := by
    simp only [growthBlocked, h, growthJoins_eq_none hj, Bool.false_or, Option.isNone_none,
      Bool.true_and]
    exact decide_eq_true hl
  have stands : ¬ p.closedToGrowth = true := by simp [h]
  simp only [bearGrowing, hp, blocked, if_true, closeToGrowth]
  rw [if_neg stands]

theorem bearGrowing_of_joins (h : p.closedToGrowth = false) {c n : Nat} (hj : JoinsCurrent s p r c n) :
    bearGrowing i r s = bear r (finaliseOthers r.route (finaliseIfEnd (PlanRef.mk i c) r
      (takeRef (PlanRef.mk i c) r (joinOrdinal (PlanRef.mk i c) r s)))) := by
  have joins : growthJoins s p r = some c := (growthJoins_iff s p r c).mpr ⟨n, hj⟩
  have free : growthBlocked s p r = false := by simp [growthBlocked, h, joins]
  simp only [bearGrowing, hp, free, joins, Bool.false_eq_true, if_false]

section Opens
variable (h : p.closedToGrowth = false) (hj : ∀ c n, ¬ JoinsCurrent s p r c n) (hl : p.sizes.length < 512)
include h hj hl

theorem bearGrowing_of_full (hf : 24 ≤ s.stacker.bundles.length) :
    bearGrowing i r s = gap .bundleFull s := by
  simp only [bearGrowing, hp, growthBlocked_of_opens h hj hl, growthJoins_eq_none hj,
    bundleTableFull_of_full hf, Bool.false_eq_true, if_false, if_true]

theorem bearGrowing_of_opens (hf : ¬ 24 ≤ s.stacker.bundles.length) :
    bearGrowing i r s = bear r (finaliseOthers r.route (finaliseIfEnd (PlanRef.mk i p.sizes.length) r
      (allocateBundle (PlanRef.mk i p.sizes.length) r.route
        (updateRecord r.key
          (fun q => { q with planRef := some (PlanRef.mk i p.sizes.length), bundle := none })
          (openOrdinal i p r s))))) := by
  simp only [bearGrowing, hp, growthBlocked_of_opens h hj hl, growthJoins_eq_none hj,
    bundleTableFull_of_room hf, Bool.false_eq_true, if_false]
  rw [takeRef_of_not_allocated r (fun o n => openOrdinal_not_allocated hp o n)]

end Opens
end Growing

theorem bearWaiting_of_full {f : PlanRef} {r : Record} {s : State}
    (h : 24 ≤ s.stacker.bundles.length) : bearWaiting f r s = gap .bundleFull s :=
  if_pos (bundleTableFull_of_full h)

theorem bearWaiting_of_room {f : PlanRef} {r : Record} {s : State}
    (h : ¬ 24 ≤ s.stacker.bundles.length) :
    bearWaiting f r s = bear r (allocateBundle f r.route s) :=
  if_neg (by simp [bundleTableFull_of_room h])

theorem bearNewRoute_of_no_plan {r : Record} {s : State} (h : freePlan s = none) :
    bearNewRoute r s = gap .planFull s := by
  simp only [bearNewRoute, h]

theorem bearNewRoute_of_full {r : Record} {s : State} {i : Nat} (h : freePlan s = some i)
    (hf : 24 ≤ s.stacker.bundles.length) : bearNewRoute r s = gap .bundleFull s := by
  simp only [bearNewRoute, h, bundleTableFull_of_full hf, if_true]

theorem bearNewRoute_of_room {r : Record} {s : State} {i : Nat} (h : freePlan s = some i)
    (hf : ¬ 24 ≤ s.stacker.bundles.length) : bearNewRoute r s = bear r (finaliseOthers r.route
      (allocateBundle (PlanRef.mk i 0) r.route (makePlan i r s))) := by
  simp only [bearNewRoute, h, bundleTableFull_of_room hf, Bool.false_eq_true, if_false]

section Decision
variable {m : LineState} {s : State} {r : Record}

theorem birthDecision_at_rest (h : m.moving = false) : birthDecision m s = s := by
  simp only [birthDecision, h, Bool.false_eq_true, if_false]

theorem birthDecision_of_none (hm : m.moving = true) (hc : candidate m s = none) :
    birthDecision m s = gap .noCandidate s := by
  simp only [birthDecision, hm, hc, if_true]

theorem birthDecision_of_drain_only (hm : m = .draining) (hc : candidate m s = some r)
    (hk : r.kind = .normal) : birthDecision m s = gap .drainOnly s := by
  subst hm
  simp only [birthDecision, LineState.moving, hc, hk, and_self, if_true]

section Admitted
variable (hc : candidate m s = some r) (hm : m = .running ∨ (m = .draining ∧ r.kind ≠ .normal))

include hm in
theorem moving_of_admitted : m.moving = true := by
  rcases hm with rfl | ⟨rfl, -⟩ <;> rfl

include hm in
theorem not_drain_only_of_admitted : ¬ (m = .draining ∧ r.kind = .normal) := by
  rintro ⟨rfl, hk⟩
  rcases hm with h | ⟨-, h⟩
  · cases h
  · exact h hk

include hc hm

theorem birthDecision_of_exceptions (he : 64 ≤ s.stacker.exceptions.length) :
    birthDecision m s = gap .exceptionLimit s := by
  simp only [birthDecision, moving_of_admitted hm, hc, not_drain_only_of_admitted hm, if_true, if_false]
  exact if_pos he

variable (he : s.stacker.exceptions.length < 64)
include he

theorem birthDecision_of_planned (h : birthCase s r = .planned) : birthDecision m s = bear r s := by
  simp only [birthDecision, moving_of_admitted hm, hc, not_drain_only_of_admitted hm, h, if_true, if_false]
  exact if_neg (Nat.not_le.mpr he)

theorem birthDecision_of_waiting {f : PlanRef} (h : birthCase s r = .waiting f) :
    birthDecision m s = bearWaiting f r s := by
  simp only [birthDecision, moving_of_admitted hm, hc, not_drain_only_of_admitted hm, h, if_true, if_false]
  exact if_neg (Nat.not_le.mpr he)

theorem birthDecision_of_newRoute (h : birthCase s r = .newRoute) :
    birthDecision m s = bearNewRoute r s := by
  simp only [birthDecision, moving_of_admitted hm, hc, not_drain_only_of_admitted hm, h, if_true, if_false]
  exact if_neg (Nat.not_le.mpr he)

theorem birthDecision_of_growing {i : Nat} (h : birthCase s r = .growing i) :
    birthDecision m s = bearGrowing i r s := by
  simp only [birthDecision, moving_of_admitted hm, hc, not_drain_only_of_admitted hm, h, if_true, if_false]
  exact if_neg (Nat.not_le.mpr he)

end Admitted
end Decision

end Sys2Proof.Machine

/-! PROOF. O53, assembled from the candidate, the cases and the acts of the planner. -/

namespace Sys2Proof.Machine

/-- Settles O53: the decision by its candidate and its case, each act of the planner by its equation. -/
theorem birthDecisionBearsOrGaps : Obligations.BirthDecisionBearsOrGaps := by
  unfold Obligations.BirthDecisionBearsOrGaps
  intro gapped born ended
  refine ⟨fun m s => ⟨birthDecision_at_rest, birthDecision_of_none,
      fun r hm => birthDecision_of_drain_only hm, fun r hc hm => ⟨birthDecision_of_exceptions hc hm,
        fun he => ⟨fun h => ?planned, fun f h => ?waiting, fun h => ?newRoute, fun i p h hp => ?growing⟩⟩⟩,
    fun m s first rest => ?candidate, fun r s => ?case, fun f route s o => ?allocation,
    fun f s o ho => ⟨fun n => finaliseOrdinal_of_allocated ho, finaliseOrdinal_of_not_allocated ho⟩,
    fun route s => ?others, fun i r s hi => ?making⟩
  case planned => exact (birthDecision_of_planned hc hm he h).trans (bear_eq r s)
  case waiting =>
    have e := birthDecision_of_waiting hc hm he h
    exact ⟨fun hf => e.trans (bearWaiting_of_full hf),
      fun hf => e.trans ((bearWaiting_of_room hf).trans (bear_eq r _))⟩
  case newRoute =>
    have e := birthDecision_of_newRoute hc hm he h
    exact ⟨fun hn => e.trans (bearNewRoute_of_no_plan hn), fun i hi =>
      ⟨fun hf => e.trans (bearNewRoute_of_full hi hf),
        fun hf => e.trans ((bearNewRoute_of_room hi hf).trans (bear_eq r _))⟩⟩
  case growing =>
    have e := birthDecision_of_growing hc hm he h
    refine ⟨fun h => e.trans (bearGrowing_of_closed hp h),
      fun h hj hl => e.trans (bearGrowing_of_last hp h hj hl),
      fun h c n hj => e.trans ?joins, fun h hj hl => ⟨fun hf => e.trans (bearGrowing_of_full hp h hj hl hf),
        fun hf => e.trans ?opens⟩⟩
    case joins =>
      rw [bearGrowing_of_joins hp h hj, takeRef_joinOrdinal hp hj]
      exact bear_eq r _
    case opens =>
      have opened : openOrdinal i p r s = match p.kind with
          | .complete => setPlan i (some (p.grown r)) s
          | .openAt c => if (p.sizes[c]?).any (fun o => !o.final) = true then
              finaliseOrdinal (PlanRef.mk i c) (setPlan i (some (p.grown r)) s)
            else setPlan i (some (p.grown r)) s := by
        cases hk : p.kind with
        | complete => exact openOrdinal_of_complete hk
        | openAt c => exact openOrdinal_of_open hk
      rw [bearGrowing_of_opens hp h hj hl hf, opened]
      exact bear_eq r _
  case candidate => exact ⟨candidate_of_empty, candidate_of_front, candidate_of_burst⟩
  case case =>
    exact ⟨fun f o hf ho => ⟨fun n => birthCase_of_allocated hf ho, birthCase_of_waiting hf ho⟩,
      fun ha hp => birthCase_of_absent_new ha (planOfRoute_of_none hp),
      fun ha i p hp hr hb => birthCase_of_absent_growing ha (planOfRoute_of_first hp hr hb),
      unplanned_iff s r, freePlan_eq_some s, freePlan_eq_none s⟩
  case allocation => exact fun ho hr => allocateBundle_eq route ho hr
  case others =>
    refine ⟨finaliseOther route, rfl, fun u i => ⟨fun p c hp hends => ?_, fun hends =>
      ⟨finaliseCurrent_of_not_ends hends, finaliseOther_of_not_ends hends⟩⟩⟩
    have e := finaliseCurrent_of_ends hp hends
    exact ⟨e, e ▸ finaliseOther_of_plan hp⟩
  case making =>
    refine ⟨fun h => ?ending, fun h => if_neg fun k => h ((routeEnds_iff _ _).mp k)⟩
    have ends := (routeEnds_iff r.route (routeSearch s r)).mpr h
    exact ⟨planAt_makePlan_of_ends ends hi,
      fun hn g group hg m hm q hq => findRecord_makePlan_member ends hn hg hm hq,
      fun k hk => findRecord_makePlan_other ends hk⟩

end Sys2Proof.Machine

/-! PROOF. The completion of a drain (R43, R57, R155), and O27. -/

namespace Sys2Proof.Machine

/-! ### Units that act while no piece is on the line -/

/-- A state that differs from another in its units alone. -/
def OnlyUnits (s t : State) : Prop := ∃ us, t = { s with units := us }

theorem OnlyUnits.refl (s : State) : OnlyUnits s s := ⟨s.units, rfl⟩

theorem OnlyUnits.trans {s t u : State} (h : OnlyUnits s t) (k : OnlyUnits t u) : OnlyUnits s u := by
  obtain ⟨us, rfl⟩ := h
  obtain ⟨vs, rfl⟩ := k
  exact ⟨vs, rfl⟩

theorem OnlyUnits.no_pieces {s t : State} (h : OnlyUnits s t) (k : s.tracking.pieces = []) :
    t.tracking.pieces = [] := by
  obtain ⟨us, rfl⟩ := h
  exact k

section NoPieces
variable {s : State} (h : s.tracking.pieces = [])
include h

theorem deliverResult_of_no_pieces (u : Nat) (w : OpenWindow) : deliverResult u w s = s := by
  refine deliverResult_of_no_piece ?_ u
  cases w.piece with
  | none => rfl
  | some n => simp [pieceNumbered, h]

theorem closeWindow_onlyUnits (u : Nat) : OnlyUnits s (closeWindow u s) := by
  unfold closeWindow
  split
  · exact .refl s
  · rw [deliverResult_of_no_pieces (by exact h)]
    exact ⟨_, rfl⟩

theorem openWindow_onlyUnits (u : Nat) : OnlyUnits s (openWindow u s) :=
  (closeWindow_onlyUnits h u).trans ⟨_, rfl⟩

theorem writeUnit_onlyUnits (u : Nat) (n : UnitSettings) : OnlyUnits s (writeUnit u n s) := by
  unfold writeUnit
  dsimp only
  split
  · exact ⟨_, rfl⟩
  · split
    · exact OnlyUnits.trans ⟨_, rfl⟩ (openWindow_onlyUnits (by exact h) u)
    · exact ⟨_, rfl⟩

theorem takePending_onlyUnits (u : Nat) : OnlyUnits s (takePending s u) := by
  unfold takePending
  split
  · exact .refl s
  · exact writeUnit_onlyUnits h u _

/-- Pending settings that take effect while no piece is on the line change the units alone (R171). -/
theorem applyPending_onlyUnits : OnlyUnits s (applyPending s) := by
  have each (l : List Nat) : ∀ t : State, OnlyUnits s t → OnlyUnits s (l.foldl takePending t) := by
    induction l with
    | nil => exact fun t ht => ht
    | cons u l ih => exact fun t ht => ih _ (ht.trans (takePending_onlyUnits (ht.no_pieces h) u))
  rw [applyPending_eq]
  exact each _ s (.refl s)

end NoPieces

/-! ### Every plan is FREE (R43) -/

/-- A record without its reference to a plan of the table, as it is after a drain (R43). -/
def Record.withoutPlans (r : Record) : Record :=
  { r with
    planRef := if (r.state = .queued ∨ r.state = .inFlight)
        ∧ r.planRef.any (fun f => decide (f.plan < 4)) = true then none else r.planRef }

theorem Record.withoutPlan_eq (i : Nat) (r : Record) : r.withoutPlan i =
    { r with
      planRef := if (r.state = .queued ∨ r.state = .inFlight)
          ∧ r.planRef.any (fun f => f.plan == i) = true then none else r.planRef } := by
  unfold Record.withoutPlan
  split <;> rfl

theorem Record.withoutPlan_four (r : Record) :
    (((r.withoutPlan 0).withoutPlan 1).withoutPlan 2).withoutPlan 3 = r.withoutPlans := by
  by_cases hs : r.state = .queued ∨ r.state = .inFlight
  · cases hr : r.planRef with
    | none => simp [Record.withoutPlan_eq, Record.withoutPlans, hr]
    | some f =>
      rcases Nat.lt_or_ge f.plan 4 with hf | hf
      · have hp : f.plan = 0 ∨ f.plan = 1 ∨ f.plan = 2 ∨ f.plan = 3 := by omega
        rcases hp with hp | hp | hp | hp <;>
          simp [Record.withoutPlan_eq, Record.withoutPlans, hr, hs, hp]
      · have h0 : f.plan ≠ 0 ∧ f.plan ≠ 1 ∧ f.plan ≠ 2 ∧ f.plan ≠ 3 := by omega
        simp [Record.withoutPlan_eq, Record.withoutPlans, hr, hs, h0, Nat.not_lt.mpr hf]
  · simp [Record.withoutPlan_eq, Record.withoutPlans, hs]

/-- A bundle whose ordinal is planned-final with it (R43). -/
def Bundle.atDrain (s : State) (b : Bundle) : Bundle :=
  if (ordinalAt s (PlanRef.mk b.plan b.ordinal)).any
      (fun o => decide (o.status = .allocated b.number)) = true then
    { b with final := true } else b

theorem Bundle.atDrain_number (s : State) (b : Bundle) : (b.atDrain s).number = b.number := by
  unfold Bundle.atDrain
  split <;> rfl

/-- Every plan is FREE, and the bundles of their ordinals are planned-final (R43). -/
theorem finaliseAtDrain_eq {s : State} (h : s.planner.plans.length = 4) : finaliseAtDrain s =
    { s with
      store := s.store.map Record.withoutPlans
      planner := { s.planner with plans := [none, none, none, none] }
      stacker := { s.stacker with bundles := s.stacker.bundles.map (Bundle.atDrain s) } } := by
  have held (b : Bundle) : (if (planAt s b.plan).any (fun p =>
        (p.sizes[b.ordinal]?).any (fun o => o.status == .allocated b.number)) = true then
      { b with final := true } else b) = b.atDrain s := by
    rw [Bundle.atDrain, ordinalAt]
    cases planAt s b.plan <;> rfl
  have plans : (((s.planner.plans.set 0 none).set 1 none).set 2 none).set 3 none
      = [none, none, none, none] := by
    match hp : s.planner.plans, h with
    | [_, _, _, _], _ => rfl
  have store : (((s.store.map (Record.withoutPlan 0)).map (Record.withoutPlan 1)).map
      (Record.withoutPlan 2)).map (Record.withoutPlan 3) = s.store.map Record.withoutPlans := by
    rw [List.map_map, List.map_map, List.map_map]
    exact List.map_congr_left fun r _ => r.withoutPlan_four
  rw [← plans, ← store, ← show (fun b => _) = Bundle.atDrain s from funext held]
  rfl

end Sys2Proof.Machine

/-! PROOF. The bundles at the completion of a drain (R155). -/

namespace Sys2Proof.Machine

/-! ### Each bundle of a drain (R155) -/

/-- No queued record is a REMAKE, as R57 asks of a drain's end. -/
def NoRemakes (s : State) : Prop :=
  ∀ k ∈ s.queue.order, ∀ r, findRecord s k = some r → r.kind ≠ .remake

theorem lateKeys_of_noRemakes {s : State} (h : NoRemakes s) (n : Nat) : lateKeys s n = [] := by
  have queued : queuedRemakesOf s n = [] := by
    refine List.filter_eq_nil_iff.mpr fun k hk => ?_
    cases hr : findRecord s k with
    | none => simp
    | some r => simp [h k hk r hr]
  rw [lateKeys, queued, List.take_nil]

/-- A close while no REMAKE is queued sends no record to EXCEPTION (R144). -/
theorem closeBundle_of_noRemakes {n : Nat} (why : CloseReason) {s : State} {b : Bundle} (h : NoRemakes s)
    (hb : findBundle s n = some b) : closeBundle n why s =
      { s with
        stacker :=
          { s.stacker with
            bundles := s.stacker.bundles.map (fun c => if c.number = n then c.closedWith why else c)
            ejectA := if b.pocket = some .a then EjectTimer.stopped else s.stacker.ejectA
            ejectB := if b.pocket = some .b then EjectTimer.stopped else s.stacker.ejectB } } := by
  simp only [closeBundle_effect why hb, lateKeys_of_noRemakes h, List.not_mem_nil, if_false, List.map_id',
    not_false_eq_true, decide_true, List.filter_true, List.map_nil, List.append_nil]

/-- A bundle that the drain leaves in the table: closed, PLANNED if it is complete (R155). -/
def Bundle.drained (b : Bundle) : Bundle :=
  if b.state = .filling ∨ b.state = .held then
    { b with
      state := .ejecting
      reason := some
        (if b.final = true ∧ 1 ≤ b.stackedCount ∧ b.stackedCount = b.plannedCount then .planned
          else .drain)
      short := decide (b.stackedCount < b.plannedCount)
      claim := false }
  else b

theorem Bundle.drained_number (b : Bundle) : b.drained.number = b.number := by
  unfold Bundle.drained
  split <;> rfl

/-- Whether the drain starts the eject of a pocket for a bundle (R155). -/
def Bundle.endsAt (k : PocketId) (b : Bundle) : Bool :=
  (b.state = .filling || b.state = .held) && decide (b.pocket = some k)

section Apart
variable {done todo : List Bundle} {b : Bundle}
  (hn : ((done ++ b :: todo).map (fun c => c.number)).Nodup)
include hn

theorem number_ne_of_nodup : (∀ c ∈ done, c.number ≠ b.number) ∧ ∀ c ∈ todo, c.number ≠ b.number := by
  rw [List.map_append, List.map_cons, List.nodup_middle, List.nodup_cons, List.mem_append, not_or] at hn
  exact ⟨fun c hc e => hn.1.1 (List.mem_map.mpr ⟨c, hc, e⟩),
    fun c hc e => hn.1.2 (List.mem_map.mpr ⟨c, hc, e⟩)⟩

theorem filter_number_middle :
    (done ++ b :: todo).filter (fun c => c.number ≠ b.number) = done ++ todo := by
  obtain ⟨hd, ht⟩ := number_ne_of_nodup hn
  rw [List.filter_append, List.filter_cons_of_neg (by simp),
    List.filter_eq_self.mpr fun c hc => decide_eq_true (hd c hc),
    List.filter_eq_self.mpr fun c hc => decide_eq_true (ht c hc)]

theorem map_number_middle (g : Bundle → Bundle) :
    (done ++ b :: todo).map (fun c => if c.number = b.number then g c else c) = done ++ g b :: todo := by
  obtain ⟨hd, ht⟩ := number_ne_of_nodup hn
  have same (l : List Bundle) (h : ∀ c ∈ l, c.number ≠ b.number) :
      l.map (fun c => if c.number = b.number then g c else c) = l := by
    rw [List.map_congr_left fun c hc => if_neg (h c hc), List.map_id']
  rw [List.map_append, List.map_cons, if_pos rfl, same done hd, same todo ht]

end Apart

section Each
variable {s : State} {done todo : List Bundle} {b : Bundle} (hs : s.stacker.bundles = done ++ b :: todo)
  (hn : ((done ++ b :: todo).map (fun c => c.number)).Nodup)
include hs hn

theorem findBundle_middle : findBundle s b.number = some b :=
  findBundle_of_mem (hs ▸ hn) (hs ▸ List.mem_append_right _ List.mem_cons_self)

/-- A FORMING bundle is freed at the end of a drain (R155). -/
theorem drainBundle_forming (hr : s.stacker.request = none) (hb : b.state = .forming) :
    drainBundle s b.number =
      { s with
        store := s.store.map (fun r => if r.bundle = some b.number then { r with bundle := none } else r)
        stacker :=
          { s.stacker with
            bundles := done ++ todo
            lastFreed := some (FreedReport.mk b.number b.route .drain)
            freedCount :=
              if s.stacker.freedCount < 65535 then s.stacker.freedCount + 1
              else s.stacker.freedCount } } := by
  have hf := findBundle_middle hs hn
  have none_left : (unclosedFreed b.number b.route .drain s).stacker.request = none := by
    simp [unclosedFreed, hr]
  have e : drainBundle s b.number = unclosedFreed b.number b.route .drain s := by
    simp only [drainBundle, hf, hb]
    rw [freeUnclosed_eq .drain hf, answerRequest_of_none (.inl none_left), ite_self]
  have other : s.stacker.request ≠ some b.number := by simp [hr]
  simp only [e, unclosedFreed, other, if_false, hs, filter_number_middle hn]

/-- A FILLING or HELD bundle closes at the end of a drain (R155). -/
theorem drainBundle_closing (hq : NoRemakes s) (hb : b.state = .filling ∨ b.state = .held) :
    drainBundle s b.number =
      { s with
        stacker :=
          { s.stacker with
            bundles := done ++ b.drained :: todo
            ejectA := if b.pocket = some .a then EjectTimer.stopped else s.stacker.ejectA
            ejectB := if b.pocket = some .b then EjectTimer.stopped else s.stacker.ejectB } } := by
  have hf := findBundle_middle hs hn
  have e : drainBundle s b.number
      = closeBundle b.number (if b.isComplete = true then .planned else .drain) s := by
    rcases hb with hb | hb <;> simp only [drainBundle, hf, hb] <;> split <;> rfl
  have closed : b.closedWith (if b.isComplete = true then .planned else .drain) = b.drained := by
    rw [Bundle.drained, if_pos hb, Bundle.closedWith]
    simp only [isComplete_iff]
  rw [e, closeBundle_of_noRemakes _ hq hf, hs,
    map_number_middle hn (Bundle.closedWith (if b.isComplete = true then .planned else .drain)), closed]

/-- Any other bundle stays as it is (R155). -/
theorem drainBundle_ended (hb : b.state = .ejecting ∨ b.state = .closed) :
    drainBundle s b.number = s := by
  rcases hb with hb | hb <;> simp only [drainBundle, findBundle_middle hs hn, hb]

end Each

/-! ### All bundles of a drain (R155) -/

/-- The bundles that a drain frees. -/
def formingOf (bs : List Bundle) : List Bundle := bs.filter (fun b => b.state = .forming)

/-- A record without the number of a bundle that a drain frees. -/
def Record.withoutBundles (freed : List Bundle) (r : Record) : Record :=
  { r with
    bundle := if freed.any (fun b => decide (r.bundle = some b.number)) = true then none
      else r.bundle }

/-- A state whose bundles are drained but for those before some of them. -/
def bundlesDrained (done todo : List Bundle) (s : State) : State :=
  { s with
    store := s.store.map (Record.withoutBundles (formingOf todo))
    stacker :=
      { s.stacker with
        bundles := done ++ (todo.filter (fun b => b.state ≠ .forming)).map Bundle.drained
        ejectA := if todo.any (Bundle.endsAt .a) = true then EjectTimer.stopped else s.stacker.ejectA
        ejectB := if todo.any (Bundle.endsAt .b) = true then EjectTimer.stopped else s.stacker.ejectB
        lastFreed := ((formingOf todo).getLast?.map (fun b =>
          FreedReport.mk b.number b.route .drain)).or s.stacker.lastFreed
        freedCount := (formingOf todo).foldl (fun n _ => if n < 65535 then n + 1 else n)
          s.stacker.freedCount } }

theorem bundlesDrained_nil {done : List Bundle} {s : State} (h : s.stacker.bundles = done) :
    bundlesDrained done [] s = s := by
  subst h
  have store : s.store.map (Record.withoutBundles (formingOf [])) = s.store := List.map_id' _
  rw [bundlesDrained, store]
  simp [formingOf]

/-- The number of a bundle freed first, then those of the rest. -/
theorem Record.withoutBundles_cons (b : Bundle) (freed : List Bundle) (r : Record) :
    (if r.bundle = some b.number then { r with bundle := none } else r).withoutBundles freed
      = r.withoutBundles (b :: freed) := by
  by_cases h : r.bundle = some b.number
  · simp [Record.withoutBundles, h]
  · simp [Record.withoutBundles, h]

theorem getLast?_cons_map_or {α β : Type} (f : α → β) (a : α) (l : List α) (x : Option β) :
    ((a :: l).getLast?.map f).or x = (l.getLast?.map f).or (some (f a)) := by
  rw [List.getLast?_cons]
  cases l.getLast? <;> rfl

theorem noRemakes_of_map {s t : State} {g : Record → Record} (hg : ∀ r, (g r).key = r.key)
    (hk : ∀ r, (g r).kind = r.kind) (hs : t.store = s.store.map g)
    (hq : t.queue.order = s.queue.order) (h : NoRemakes s) : NoRemakes t := by
  intro k hkey r hr
  have found : findRecord t k = findRecord (mapRecords g s) k := by
    rw [findRecord, hs]
    rfl
  rw [found, findRecord_mapRecords g hg] at hr
  obtain ⟨q, hq', rfl⟩ := Option.map_eq_some_iff.mp hr
  rw [hk]
  exact h k (hq ▸ hkey) q hq'

section Cons
variable {done todo : List Bundle} {b : Bundle} {s : State}

/-- A bundle that a drain frees, then those after it. -/
theorem bundlesDrained_forming (hb : b.state = .forming) : bundlesDrained done todo
      { s with
        store := s.store.map (fun r => if r.bundle = some b.number then { r with bundle := none } else r)
        stacker :=
          { s.stacker with
            bundles := done ++ todo
            lastFreed := some (FreedReport.mk b.number b.route .drain)
            freedCount :=
              if s.stacker.freedCount < 65535 then s.stacker.freedCount + 1
              else s.stacker.freedCount } }
    = bundlesDrained done (b :: todo) s := by
  have forming : formingOf (b :: todo) = b :: formingOf todo :=
    List.filter_cons_of_pos (by simp [hb])
  have store : (s.store.map (fun r => if r.bundle = some b.number then { r with bundle := none }
      else r)).map (Record.withoutBundles (formingOf todo))
      = s.store.map (Record.withoutBundles (formingOf (b :: todo))) := by
    rw [List.map_map, forming]
    exact List.map_congr_left fun r _ => Record.withoutBundles_cons b _ r
  simp only [bundlesDrained, store]
  rw [forming, getLast?_cons_map_or]
  simp [Bundle.endsAt, hb]

/-- A bundle that a drain closes, then those after it. -/
theorem bundlesDrained_closing (hb : b.state = .filling ∨ b.state = .held) :
    bundlesDrained (done ++ [b.drained]) todo
      { s with
        stacker :=
          { s.stacker with
            bundles := done ++ b.drained :: todo
            ejectA := if b.pocket = some .a then EjectTimer.stopped else s.stacker.ejectA
            ejectB := if b.pocket = some .b then EjectTimer.stopped else s.stacker.ejectB } }
    = bundlesDrained done (b :: todo) s := by
  have stays : b.state ≠ .forming := by rcases hb with hb | hb <;> simp [hb]
  have forming : formingOf (b :: todo) = formingOf todo := List.filter_cons_of_neg (by simp [stays])
  have ends (k : PocketId) : b.endsAt k = decide (b.pocket = some k) := by
    rcases hb with hb | hb <;> simp [Bundle.endsAt, hb]
  have eject (k : PocketId) (t : EjectTimer) :
      (if todo.any (Bundle.endsAt k) = true then EjectTimer.stopped
        else if b.pocket = some k then EjectTimer.stopped else t)
      = if (b :: todo).any (Bundle.endsAt k) = true then EjectTimer.stopped else t := by
    by_cases hp : b.pocket = some k <;> simp [ends, hp]
  simp only [bundlesDrained, eject, forming]
  simp [stays]

/-- A bundle that a drain leaves as it is, then those after it. -/
theorem bundlesDrained_ended (hb : b.state = .ejecting ∨ b.state = .closed) :
    bundlesDrained (done ++ [b]) todo s = bundlesDrained done (b :: todo) s := by
  have stays : b.state ≠ .forming := by rcases hb with hb | hb <;> simp [hb]
  have kept : b.drained = b := if_neg (by rcases hb with hb | hb <;> simp [hb])
  have forming : formingOf (b :: todo) = formingOf todo := List.filter_cons_of_neg (by simp [stays])
  have ends (k : PocketId) : b.endsAt k = false := by
    rcases hb with hb | hb <;> simp [Bundle.endsAt, hb]
  simp [bundlesDrained, forming, ends, stays, kept]

end Cons

/-- The drain takes the bundles one after the other, each as its own state says (R155). -/
theorem foldl_drainBundle (todo : List Bundle) : ∀ (done : List Bundle) (s : State),
    s.stacker.bundles = done ++ todo → ((done ++ todo).map (fun c => c.number)).Nodup →
    s.stacker.request = none → NoRemakes s →
    (todo.map (fun b => b.number)).foldl drainBundle s = bundlesDrained done todo s := by
  induction todo with
  | nil => exact fun done s hs _ _ _ => (bundlesDrained_nil (hs.trans (List.append_nil done))).symm
  | cons b todo ih =>
    intro done s hs hn hr hq
    rw [List.map_cons, List.foldl_cons]
    have closing (hb : b.state = .filling ∨ b.state = .held) :
        (todo.map (fun b => b.number)).foldl drainBundle (drainBundle s b.number)
          = bundlesDrained done (b :: todo) s := by
      have numbers : ((done ++ [b.drained] ++ todo).map (fun c => c.number)).Nodup := by
        simpa [b.drained_number] using hn
      have e := drainBundle_closing hs hn hq hb
      generalize drainBundle s b.number = u at e
      rw [ih (done ++ [b.drained]) u (by rw [e]; simp) numbers (by rw [e]; exact hr)
        (by rw [e]; exact hq), e, bundlesDrained_closing hb]
    have ended (hb : b.state = .ejecting ∨ b.state = .closed) :
        (todo.map (fun b => b.number)).foldl drainBundle (drainBundle s b.number)
          = bundlesDrained done (b :: todo) s := by
      rw [drainBundle_ended hs hn hb, ih (done ++ [b]) s (by simpa using hs) (by simpa using hn) hr hq,
        bundlesDrained_ended hb]
    cases hb : b.state with
    | forming =>
      have numbers : ((done ++ todo).map (fun c => c.number)).Nodup :=
        hn.sublist ((List.Sublist.append_left (List.sublist_cons_self b todo) done).map _)
      have e := drainBundle_forming hs hn hr hb
      generalize drainBundle s b.number = u at e
      have remakes : NoRemakes u := noRemakes_of_map (fun r => by split <;> rfl)
        (fun r => by split <;> rfl) (congrArg State.store e) (by rw [e]) hq
      rw [ih done u (by rw [e]) numbers (by rw [e]; exact hr) remakes, e, bundlesDrained_forming hb]
    | filling => exact closing (.inl hb)
    | held => exact closing (.inr hb)
    | ejecting => exact ended (.inl hb)
    | closed => exact ended (.inr hb)

end Sys2Proof.Machine

/-! PROOF. The completion of a drain as one equation, and O27. -/

namespace Sys2Proof.Machine

/-! ### The completion (R43, R57, R155) -/

/-- The request is absent and POCKET-WAIT cleared with it (R155). -/
def withoutRequest (s : State) : State :=
  { s with
    holds :=
      { s.holds with
        causes := if s.stacker.request = none then s.holds.causes
          else { s.holds.causes with pocketWait := false } }
    stacker := { s.stacker with request := none } }

theorem withoutRequest_eq (s : State) :
    (if s.stacker.request.isSome = true then clearRequest s else s) = withoutRequest s := by
  by_cases h : s.stacker.request = none
  · have absent : ¬ s.stacker.request.isSome = true := by simp [h]
    rw [if_neg absent, withoutRequest, if_pos h]
    calc s = { s with stacker := { s.stacker with request := s.stacker.request } } := rfl
      _ = _ := by rw [h]
  · have stands : s.stacker.request.isSome = true := Option.isSome_iff_ne_none.mpr h
    rw [if_pos stands, withoutRequest, if_neg h]
    rfl

section Completion
variable {s : State} (hs : BundleSafe s) (hd : Drained s)
include hs hd

/-- The blocks at the completion of a drain. -/
theorem drainBlocks_eq : drainBlocks s = bundlesDrained [] (s.stacker.bundles.map (Bundle.atDrain s))
    (withoutRequest
      { s with
        store := s.store.map Record.withoutPlans
        planner := { s.planner with plans := [none, none, none, none] }
        stacker := { s.stacker with bundles := s.stacker.bundles.map (Bundle.atDrain s) } }) := by
  obtain ⟨hn, -, hp⟩ := hs
  obtain ⟨-, hq, -⟩ := hd
  have numbers : (([] ++ s.stacker.bundles.map (Bundle.atDrain s)).map (fun c : Bundle => c.number)).Nodup := by
    rw [List.nil_append, map_number (fun b => b.atDrain_number s)]
    exact hn
  have remakes : NoRemakes (finaliseAtDrain s) := noRemakes_of_map (g := Record.withoutPlans)
    (fun _ => rfl) (fun _ => rfl) (by rw [finaliseAtDrain_eq hp]) (by rw [finaliseAtDrain_eq hp]) hq
  rw [drainBlocks, withoutRequest_eq]
  rw [finaliseAtDrain_eq hp] at remakes ⊢
  exact foldl_drainBundle _ [] _ rfl numbers rfl remakes

omit hs in
/-- The line stops with its drain over (R57, R50). -/
theorem drainTest_eq (hl : s.line.state = .draining) : drainTest s = applyPending
    { drainBlocks s with
      line :=
        { s.line with
          state := .stopped, drain := false, pause := false, period := none, sinceMark := none } } := by
  have line : (drainBlocks s).line = s.line := (drainBlocks_step s).line
  have stopped : LineUnit.enter .stopped { s.line with drain := false } = { s.line with
      state := .stopped, drain := false, pause := false, period := none, sinceMark := none } :=
    LineUnit.enter_stopped_of_moving (.inr hl)
  rw [drainTest, if_pos ⟨hl, (drainConditions_iff s).mpr hd⟩, ← stopped, ← line]
  rfl

/-- After a drain every plan is FREE and every bundle EJECTING or CLOSED (R43, R155). -/
theorem drainTest_tables (hl : s.line.state = .draining) :
    (drainTest s).planner.plans = [none, none, none, none]
      ∧ ∀ b ∈ (drainTest s).stacker.bundles, b.state = .ejecting ∨ b.state = .closed := by
  have pieces : (drainBlocks s).tracking.pieces = [] := by
    rw [drainBlocks_eq hs hd]
    exact hd.1
  obtain ⟨us, e⟩ := applyPending_onlyUnits (s := { drainBlocks s with
    line := { s.line with
      state := .stopped, drain := false, pause := false, period := none, sinceMark := none } }) pieces
  rw [drainTest_eq hd hl, e, drainBlocks_eq hs hd]
  refine ⟨rfl, fun b hb => ?_⟩
  obtain ⟨c, hc, rfl⟩ := List.mem_map.mp (show b ∈ List.map Bundle.drained _ from hb)
  have stays : c.state ≠ .forming := of_decide_eq_true (List.mem_filter.mp hc).2
  unfold Bundle.drained
  split
  · exact .inl rfl
  next ended =>
    cases hstate : c.state with
    | forming => exact absurd hstate stays
    | filling => exact absurd (.inl hstate) ended
    | held => exact absurd (.inr hstate) ended
    | ejecting => exact .inl rfl
    | closed => exact .inr rfl

end Completion

/-! ### DRAIN (R56) -/

section Drain
variable {s : State}

theorem exec_drain (h : Listening s) :
    exec (.drain (.fields ())) s = .next (drainLine (emptyLatch s)) :=
  congrArg Host.Outcome.next (hostCommand_listening () (fun _ => drainLine) h)

theorem drainLine_refused (h : s.line.state = .idle
    ∨ (s.line.state = .stopped ∧ anyFaultInput s = true)) : drainLine s = refuseWith .state s := by
  rcases h with hs | ⟨hs, hi⟩
  · simp only [drainLine, hs]
  · simp only [drainLine, hs, hi, if_true]

theorem drainLine_waits (h : s.line.state = .holding ∨ s.line.state = .faulted) :
    drainLine s = answer .ok [] (setDrain s) := by
  rcases h with hs | hs <;> simp only [drainLine, hs]

theorem drainLine_draining (hs : s.line.state = .draining) : drainLine s = answer .ok [] s := by
  simp only [drainLine, hs]

/-- RUNNING, and STOPPED without a fault input, go to DRAINING and make the drain test (R56, R57). -/
theorem drainLine_starts (hl : LineSafe s.line)
    (h : s.line.state = .running ∨ (s.line.state = .stopped ∧ anyFaultInput s = false)) :
    drainLine s = answer .ok []
      (drainTest { s with line := { s.line with state := .draining, drain := true } }) := by
  rcases h with hs | ⟨hs, hi⟩
  · simp only [drainLine, hs]
  · have still : s.line.state.moving = false := by rw [hs]; rfl
    obtain ⟨-, hperiod, -⟩ := hl.untimed_of_not_moving still
    have line : LineUnit.enter .draining { s.line with drain := true }
        = { s.line with state := .draining, drain := true } := by
      calc LineUnit.enter .draining { s.line with drain := true }
          = { s.line.enter .draining with drain := true } := rfl
        _ = _ := by rw [hl.enter_moving still rfl, ← hperiod]
    have start : startMoving (setDrain s)
        = drainTest { s with line := LineUnit.enter .draining { s.line with drain := true } } := rfl
    simp only [drainLine, hs, hi, Bool.false_eq_true, if_false]
    rw [start, line]

end Drain

/-- Settles O27: DRAIN by line state, and the completion of the drain by `drainTest_eq` and
`drainBlocks_eq`. -/
theorem drainByLineState : Obligations.DrainByLineState := by
  refine ⟨fun s h hl => ?command, fun s hs hd hl => ?completion⟩
  case command =>
    dsimp only
    have refused (hs : s.line.state = .idle ∨ (s.line.state = .stopped ∧ anyFaultInput s = true)) :
        exec (.drain (.fields ())) s = .next { s with host := s.host.answered .state [] } := by
      rw [exec_drain h, drainLine_refused (s := emptyLatch s) hs]
      rfl
    refine ⟨fun hs => refused (.inl hs), fun hs hi => refused (.inr ⟨hs, hi⟩), fun hs => ?starts,
      fun hs => ?waits, fun hs => ?draining⟩
    case starts =>
      rw [exec_drain h, drainLine_starts (s := emptyLatch s) hl hs]
      refine ⟨fun hn => ?undrained, fun hd => ⟨_, rfl, ?drained⟩⟩
      case undrained =>
        rw [drainTest_withLine_of_not_drained (s := emptyLatch s) _ hn]
        rfl
      case drained =>
        refine ⟨?_, ?_, ?_, ?_, fun hb => ?tables⟩
        case tables => exact drainTest_tables (s := { emptyLatch s with
          line := { s.line with state := .draining, drain := true } }) hb hd rfl
        all_goals rw [drainTest_withLine_of_drained (s := emptyLatch s) rfl hd]
        · rw [answer_line, completeDrain_line]
          rfl
        · rw [answer_line, completeDrain_line]
          rfl
        · rw [answer_line, completeDrain_line]
          rfl
        · rw [answer, (completeDrain_motion _ rfl).host]
          rfl
    case waits =>
      rw [exec_drain h, drainLine_waits (s := emptyLatch s) hs]
      rfl
    case draining =>
      rw [exec_drain h, drainLine_draining (s := emptyLatch s) hs]
      rfl
  case completion =>
    dsimp only
    rw [drainTest_eq hd hl, drainBlocks_eq hs hd, bundlesDrained, withoutRequest, List.map_map]
    rfl

end Sys2Proof.Machine
